-- ==== Sys2Proof/Word.lean ====
section
/-! DEFINITION. Word.lean: the value types of `00_scope.md` R7 and R8. `U8` is `Byte`, `U16` (one text
code unit) is `CodeUnit`, `U32` is `Word`, `Bytes(n)` is `Bytes n`, `Bytes` is `List Byte`, `Text` is
`List CodeUnit`; a byte offset inside the 128-byte window (R60) is an `Offset`. -/

namespace Sys2Proof

/-- R7: `U8`, an unsigned 8-bit value. -/
abbrev Byte := BitVec 8

/-- R7: `U16`, one code unit of a text. -/
abbrev CodeUnit := BitVec 16

/-- R7: `U32`, the value of one register access. -/
abbrev Word := BitVec 32

/-- R60: a byte offset 0x00 to 0x7F inside the register window. -/
abbrev Offset := BitVec 7

/-- R7: `Bytes(n)`, a byte sequence of length exactly `n`, byte 0 first. -/
abbrev Bytes (n : Nat) := Vector Byte n

/-- R7, R170: `Text`, a finite sequence of 16-bit code units. -/
abbrev Text := List CodeUnit

end Sys2Proof
end

