-- ==== Sys2Proof/Syntax.lean ====
section
/-! DEFINITION. Syntax.lean: the two encoded forms of `30_encoding.md` (R90, R99) and the instructions,
one constructor for each row of `spec/opcode_table.json`. -/

namespace Sys2Proof

/-- R99: the direction of a bus access. -/
inductive Dir where
  /-- `W`: a host write, `MemWrite`. -/
  | write
  /-- `R`: a host read, `MemRead`. -/
  | read
  deriving DecidableEq, Repr

/-- R62, R99: one access as the host presents it, not yet looked at: its direction, its width in bytes,
its byte offset relative to the window's base, and the 32-bit word written (of no meaning for a read).
Width and offset are unbounded numbers so that the accesses R63 and R60 exclude can be presented too. -/
structure BusAccess where
  dir : Dir
  width : Nat
  off : Nat
  value : Word
  deriving DecidableEq, Repr

/-- R90, R99: the two formats of this hardware: `CMDW`, a command word in the register `CMD`, and
`BUSW`/`BUSR`, a register access. -/
inductive Encoded where
  | cmdw (w : Word)
  | bus (a : BusAccess)
  deriving DecidableEq, Repr

/-- One constructor for each row of `spec/opcode_table.json`, in the table's order: the eleven command
words (R95), which the sequencer runs at a completion step, and the host's register accesses
(`46_host_access.md`). A write carries the whole 32-bit word written; the two default rows carry the
offset as well. -/
inductive Instr where
  /-- 0x00000001, R122. -/
  | keyexp
  /-- 0x00000002, R145. -/
  | desenc
  /-- 0x00000003, R165. -/
  | p16
  /-- 0x00000004, R166. -/
  | p24pw
  /-- 0x00000005, R167. -/
  | p24p21
  /-- 0x00000006, R199. -/
  | md4
  /-- 0x00000017, R176. -/
  | responseLanman
  /-- 0x00000027, R177. -/
  | responseNtlm1
  /-- 0x00000037, R178. -/
  | responseNtlm2
  /-- 0x00000047, R179. -/
  | responseMd4Raw
  /-- 0x00000008, R182. -/
  | avail
  /-- `W 0x00 w`, R230. -/
  | wrCmd (w : Word)
  /-- `W 0x08 m`, R236, R237, R238, R244. -/
  | wrCtrl (m : Word)
  /-- `W 0x0C v`, R239. -/
  | wrIen (v : Word)
  /-- `W 0x10 v`, R231. -/
  | wrPwPush (v : Word)
  /-- `W 0x14 v`, R231. -/
  | wrUserPush (v : Word)
  /-- `W 0x18 v`, R231. -/
  | wrDomPush (v : Word)
  /-- `W 0x1C v`, R232. -/
  | wrDataPush (v : Word)
  /-- `W 0x20 v`, R233. -/
  | wrChPush (v : Word)
  /-- `W 0x24 v`, R240. -/
  | wrOffset (v : Word)
  /-- `R 0x00`, R234. -/
  | rdCmd
  /-- `R 0x04`, R241. -/
  | rdStatus
  /-- `R 0x0C`, R239. -/
  | rdIen
  /-- `R 0x24`, R240. -/
  | rdOffset
  /-- `R 0x28`, R242. -/
  | rdPwlen
  /-- `R 0x2C`, R242. -/
  | rdUserlen
  /-- `R 0x30`, R242. -/
  | rdDomlen
  /-- `R 0x34`, R242. -/
  | rdDatalen
  /-- `R 0x38`, R242. -/
  | rdChlen
  /-- `R 0x40`, R243. -/
  | rdOut0
  /-- `R 0x44`, R243. -/
  | rdOut1
  /-- `R 0x48`, R243. -/
  | rdOut2
  /-- `R 0x4C`, R243. -/
  | rdOut3
  /-- `R 0x50`, R243. -/
  | rdOut4
  /-- `R 0x54`, R243. -/
  | rdOut5
  /-- A write to a read-only register or an unmapped offset, R64. -/
  | wrNoEffect (off : Offset) (v : Word)
  /-- A read of a write-only register or an unmapped offset, R64. -/
  | rdReadsZero (off : Offset)
  deriving DecidableEq, Repr

end Sys2Proof
end

