-- ==== Sys2Proof/WellFormed.lean ====
section
/-! DEFINITION. WellFormed.lean: which terms stand for something the interface defines. An access is well
formed when it is one of the two primitives of `20_memory.md` R62; an instruction is well formed when its
operands are values its row of the opcode table admits. Only the two default rows restrict an operand. -/

namespace Sys2Proof

/-- R62, R60: width 4, an offset that is a multiple of 4, inside the 128-byte window. -/
def BusAccess.wellFormed (a : BusAccess) : Bool :=
  a.width == 4 && a.off % 4 == 0 && decide (a.off < 128)

/-- R61, R64, and the row "WR (no effect)" of the opcode table: the offsets at which a write is accepted
and has no effect (the read-only registers and the unmapped offsets). -/
def noEffectOffsets : List Offset :=
  [0x04, 0x28, 0x2C, 0x30, 0x34, 0x38, 0x3C, 0x40, 0x44, 0x48, 0x4C, 0x50, 0x54,
   0x58, 0x5C, 0x60, 0x64, 0x68, 0x6C, 0x70, 0x74, 0x78, 0x7C]

/-- R61, R64, and the row "RD (reads zero)" of the opcode table: the offsets at which a read returns zero
because nothing readable is there (the write-only registers and the unmapped offsets). -/
def readsZeroOffsets : List Offset :=
  [0x08, 0x10, 0x14, 0x18, 0x1C, 0x20, 0x3C,
   0x58, 0x5C, 0x60, 0x64, 0x68, 0x6C, 0x70, 0x74, 0x78, 0x7C]

/-- R61, R64: the default rows stand for the offsets of their lists only; every other operand of every
other constructor is admitted ("with any 32-bit data value", R296). -/
def Instr.wellFormed : Instr → Bool
  | .wrNoEffect off _ => noEffectOffsets.contains off
  | .rdReadsZero off => readsZeroOffsets.contains off
  | .keyexp | .desenc | .p16 | .p24pw | .p24p21 | .md4 => true
  | .responseLanman | .responseNtlm1 | .responseNtlm2 | .responseMd4Raw | .avail => true
  | .wrCmd _ | .wrCtrl _ | .wrIen _ | .wrPwPush _ | .wrUserPush _ | .wrDomPush _ => true
  | .wrDataPush _ | .wrChPush _ | .wrOffset _ => true
  | .rdCmd | .rdStatus | .rdIen | .rdOffset => true
  | .rdPwlen | .rdUserlen | .rdDomlen | .rdDatalen | .rdChlen => true
  | .rdOut0 | .rdOut1 | .rdOut2 | .rdOut3 | .rdOut4 | .rdOut5 => true

end Sys2Proof
end

