-- ==== Sys2Proof/Decode.lean ====
section
/-! DEFINITION. Decode.lean: the decoder of both formats (`30_encoding.md` R95, R97, R99; `20_memory.md`
R61 to R64), total and rejecting by name, and after it the encoder written from the same tables. -/

namespace Sys2Proof

/-- R97: the four cases of an illegal command word. -/
inductive IllegalWord where
  /-- A 1 in bits 31:7. -/
  | reservedBits
  /-- `OP` is 0 or 9 to 15. -/
  | reservedOp
  /-- `OP` is 7 and `VARIANT` is 0, 5, 6 or 7. -/
  | unknownVariant
  /-- `OP` is 1 to 6 or 8 and `VARIANT` is not 0. -/
  | strayVariant
  deriving DecidableEq, Repr

/-- The accesses that are outside the interface (R63, R303). -/
inductive AccessError where
  /-- R63: the width is not 4 bytes. -/
  | accessWidth (bytes : Nat)
  /-- R63: the offset is not a multiple of 4. -/
  | misaligned (off : Nat)
  /-- R60, U11: the offset is not in 0x00 to 0x7F. -/
  | outsideWindow (off : Nat)
  deriving DecidableEq, Repr

/-- Why an encoding is no instruction: an illegal command word, which the machine completes with
`PreconditionViolation` (R97), or an access without a meaning, which the model refuses (R63). -/
inductive DecodeError where
  | illegalWord (c : IllegalWord) (w : Word)
  | badAccess (e : AccessError)
  deriving DecidableEq, Repr

/-- R90: the field `OP`, bits 3:0 of a command word. -/
def opField (w : Word) : BitVec 4 := w.extractLsb' 0 4

/-- R90: the field `VARIANT`, bits 6:4 of a command word. -/
def variantField (w : Word) : BitVec 3 := w.extractLsb' 4 3

/-- R90: the reserved field, bits 31:7 of a command word. -/
def reservedField (w : Word) : BitVec 25 := w.extractLsb' 7 25

/-- R95: the legal command words, exactly these eleven. -/
def commandTable : List (Word × Instr) :=
  [(0x00000001, .keyexp),
   (0x00000002, .desenc),
   (0x00000003, .p16),
   (0x00000004, .p24pw),
   (0x00000005, .p24p21),
   (0x00000006, .md4),
   (0x00000017, .responseLanman),
   (0x00000027, .responseNtlm1),
   (0x00000037, .responseNtlm2),
   (0x00000047, .responseMd4Raw),
   (0x00000008, .avail)]

/-- R97: which of its four cases an illegal command word is. -/
def illegalCase (w : Word) : IllegalWord :=
  if reservedField w ≠ 0 then .reservedBits
  else if opField w = 0 ∨ 9 ≤ opField w then .reservedOp
  else if opField w = 7 then .unknownVariant
  else .strayVariant

/-- R95: "A decoder compares the whole word". -/
def decodeCommand (w : Word) : Except IllegalWord Instr :=
  match commandTable.lookup w with
  | some i => .ok i
  | none => .error (illegalCase w)

/-- R61: the writable registers, each with the instruction that a write of it is. -/
def writeTable : List (Offset × (Word → Instr)) :=
  [(0x00, .wrCmd),
   (0x08, .wrCtrl),
   (0x0C, .wrIen),
   (0x10, .wrPwPush),
   (0x14, .wrUserPush),
   (0x18, .wrDomPush),
   (0x1C, .wrDataPush),
   (0x20, .wrChPush),
   (0x24, .wrOffset)]

/-- R61: the readable registers, each with the instruction that a read of it is. -/
def readTable : List (Offset × Instr) :=
  [(0x00, .rdCmd),
   (0x04, .rdStatus),
   (0x0C, .rdIen),
   (0x24, .rdOffset),
   (0x28, .rdPwlen),
   (0x2C, .rdUserlen),
   (0x30, .rdDomlen),
   (0x34, .rdDatalen),
   (0x38, .rdChlen),
   (0x40, .rdOut0),
   (0x44, .rdOut1),
   (0x48, .rdOut2),
   (0x4C, .rdOut3),
   (0x50, .rdOut4),
   (0x54, .rdOut5)]

/-- R61, R64: a write at an offset of the window: its register's row, or the row "no effect". -/
def decodeWrite (off : Offset) (v : Word) : Instr :=
  match writeTable.lookup off with
  | some row => row v
  | none => .wrNoEffect off v

/-- R61, R64: a read at an offset of the window: its register's row, or the row "reads zero". -/
def decodeRead (off : Offset) : Instr :=
  match readTable.lookup off with
  | some i => i
  | none => .rdReadsZero off

/-- R62, R63, R60: an access of width 4 at a multiple of 4 inside the window is an instruction; every
other access is outside the interface. -/
def decodeAccess (a : BusAccess) : Except AccessError Instr :=
  if a.width ≠ 4 then .error (.accessWidth a.width)
  else if a.off % 4 ≠ 0 then .error (.misaligned a.off)
  else if 128 ≤ a.off then .error (.outsideWindow a.off)
  else
    match a.dir with
    | .write => .ok (decodeWrite (BitVec.ofNat 7 a.off) a.value)
    | .read => .ok (decodeRead (BitVec.ofNat 7 a.off))

/-- The decoder of both formats. -/
def decode : Encoded → Except DecodeError Instr
  | .cmdw w => (decodeCommand w).mapError (.illegalWord · w)
  | .bus a => (decodeAccess a).mapError .badAccess

/-- R62: `MemWrite(off, 4, v)`. -/
def writeAt (off : Offset) (v : Word) : BusAccess := ⟨.write, 4, off.toNat, v⟩

/-- R62: `MemRead(off, 4)`; a read carries no word, so its value field is zero. -/
def readAt (off : Offset) : BusAccess := ⟨.read, 4, off.toNat, 0⟩

/-- R95: the command word of an instruction of format `CMDW`. -/
def commandWord : Instr → Option Word
  | .keyexp => some 0x00000001
  | .desenc => some 0x00000002
  | .p16 => some 0x00000003
  | .p24pw => some 0x00000004
  | .p24p21 => some 0x00000005
  | .md4 => some 0x00000006
  | .responseLanman => some 0x00000017
  | .responseNtlm1 => some 0x00000027
  | .responseNtlm2 => some 0x00000037
  | .responseMd4Raw => some 0x00000047
  | .avail => some 0x00000008
  | .wrCmd _ | .wrCtrl _ | .wrIen _ | .wrPwPush _ | .wrUserPush _ | .wrDomPush _ => none
  | .wrDataPush _ | .wrChPush _ | .wrOffset _ | .wrNoEffect _ _ | .rdReadsZero _ => none
  | .rdCmd | .rdStatus | .rdIen | .rdOffset => none
  | .rdPwlen | .rdUserlen | .rdDomlen | .rdDatalen | .rdChlen => none
  | .rdOut0 | .rdOut1 | .rdOut2 | .rdOut3 | .rdOut4 | .rdOut5 => none

/-- R61, R99: the triple of an access instruction. For a command it is the access that starts it, which
R102 writes `START cmd` (`W 0x00 word`). -/
def encodeBus : Instr → BusAccess
  | .keyexp => writeAt 0x00 0x00000001
  | .desenc => writeAt 0x00 0x00000002
  | .p16 => writeAt 0x00 0x00000003
  | .p24pw => writeAt 0x00 0x00000004
  | .p24p21 => writeAt 0x00 0x00000005
  | .md4 => writeAt 0x00 0x00000006
  | .responseLanman => writeAt 0x00 0x00000017
  | .responseNtlm1 => writeAt 0x00 0x00000027
  | .responseNtlm2 => writeAt 0x00 0x00000037
  | .responseMd4Raw => writeAt 0x00 0x00000047
  | .avail => writeAt 0x00 0x00000008
  | .wrCmd v => writeAt 0x00 v
  | .wrCtrl v => writeAt 0x08 v
  | .wrIen v => writeAt 0x0C v
  | .wrPwPush v => writeAt 0x10 v
  | .wrUserPush v => writeAt 0x14 v
  | .wrDomPush v => writeAt 0x18 v
  | .wrDataPush v => writeAt 0x1C v
  | .wrChPush v => writeAt 0x20 v
  | .wrOffset v => writeAt 0x24 v
  | .rdCmd => readAt 0x00
  | .rdStatus => readAt 0x04
  | .rdIen => readAt 0x0C
  | .rdOffset => readAt 0x24
  | .rdPwlen => readAt 0x28
  | .rdUserlen => readAt 0x2C
  | .rdDomlen => readAt 0x30
  | .rdDatalen => readAt 0x34
  | .rdChlen => readAt 0x38
  | .rdOut0 => readAt 0x40
  | .rdOut1 => readAt 0x44
  | .rdOut2 => readAt 0x48
  | .rdOut3 => readAt 0x4C
  | .rdOut4 => readAt 0x50
  | .rdOut5 => readAt 0x54
  | .wrNoEffect off v => writeAt off v
  | .rdReadsZero off => readAt off

/-- The encoder: a command as its word in `CMD`, an access as its triple. -/
def encode (i : Instr) : Encoded :=
  match commandWord i with
  | some w => .cmdw w
  | none => .bus (encodeBus i)

/-- The direction of an access of which only the opcode table's bits are known. Rows `BUSW` and `BUSR` of
the table fix the seven offset bits and no direction bit; where only one direction has a row at the
offset, it is that one. Where both have one (0x00, 0x0C, 0x24), or neither, the bit above the offset says
it, 1 for a read (assumption 9, DESIGN CHOICE). -/
def tableDir (off : Offset) (readBit : Bool) : Dir :=
  match (writeTable.lookup off).isSome, (readTable.lookup off).isSome with
  | true, false => .write
  | false, true => .read
  | _, _ => if readBit then .read else .write

/-- An instruction's bits as `spec/opcode_table.json` numbers them: 32 bits are a command word (mask
0xFFFFFFFF); otherwise bits 6:0 are the offset (mask 0x7F), bit 7 the direction where `tableDir` needs it
and bits 39:8 the word written (assumption 9). -/
def tableEncoded (nbits w : Nat) : Encoded :=
  if nbits = 32 then .cmdw (BitVec.ofNat 32 w)
  else
    let off : Offset := BitVec.ofNat 7 w
    match tableDir off (w.testBit 7) with
    | .write => .bus (writeAt off (BitVec.ofNat 32 (w >>> 8)))
    | .read => .bus (readAt off)

/-- The instruction the decoder reads from an instruction's bits, numbered as the opcode table numbers
them; none where it refuses. -/
def decodeTableWord (nbits w : Nat) : Option Instr :=
  (decode (tableEncoded nbits w)).toOption

end Sys2Proof
end

