-- ==== Sys2Proof/Config.lean ====
section
/-! DEFINITION. Config.lean: the parameters of a CORE instance (`00_scope.md` R5) and the values the spec
leaves free (`93_implementation_defined.md` U1, U2; the two of U14 and U15, which take a whole state, stand
in Machine/State.lean). A parameter with a number is data
(`Config.Params`, carried by `State` and changed by no step); a value the spec does not fix is an opaque
constant with no body, so that nothing can be proved of it and every claim holds for each of its values. -/

namespace Sys2Proof

/-- R5: the six parameters of a CORE instance that are numbers or Booleans. `UPCASE` and `NARROW`, the
other two, are functions: see `Config.upcaseOpen` and `Config.narrowOpen`. -/
structure Config.Params where
  /-- `HAS_DES`: the DES engine is present. -/
  hasDes : Bool
  /-- `HAS_MD4`: the MD4 core is present. -/
  hasMd4 : Bool
  /-- `HAS_HMAC_MD5`: the HMAC-MD5 wrapper (with its MD5 core) is present. -/
  hasHmacMd5 : Bool
  /-- `TEXT_MAX`: capacity, in code units, of each of `PW`, `USER`, `DOM`; at least 14. -/
  textMax : Nat
  /-- `DATA_MAX`: capacity, in bytes, of `DATA`; at least 21. -/
  dataMax : Nat
  /-- `CH_MAX`: capacity, in bytes, of `CH`; at least 9. -/
  chMax : Nat
  deriving DecidableEq, Repr

/-- R5, column "value for this hardware". -/
def Config.thisHardware : Config.Params where
  hasDes := true
  hasMd4 := true
  hasHmacMd5 := true
  textMax := 256
  dataMax := 1024
  chMax := 16

/-- R5, column "type": the least capacities an instance may have. -/
abbrev Config.Params.wf (p : Config.Params) : Prop :=
  14 ≤ p.textMax ∧ 21 ≤ p.dataMax ∧ 9 ≤ p.chMax

/-- R171, U1: a proposal for the code units of 0x0080 or above that `UPCASE` meets in a text, given that text
with its ASCII letters already mapped. It is a free value, a function of the text alone, of which
`Machine.upcase` takes no more than the laws of D7 leave open (assumption 1). -/
opaque Config.upcaseOpen : Text → Text

/-- R172, U2: what `NARROW` does with a code unit of 0x0080 or above, a free value, assumption 2. -/
opaque Config.narrowOpen : CodeUnit → Byte

end Sys2Proof
end

