-- ==== Sys2Proof/Machine/State.lean ====
section
/-! DEFINITION. Machine/State.lean: the architectural state of one CORE instance (`10_state.md` R20) as
plain data, the instance's parameters, the host and platform side of the window, the reasons a step can
stop, and the state after reset (R40). Scratch (R37) is not here: "A model omits the scratch entirely and
evaluates the pure functions." -/

namespace Sys2Proof.Machine

/-- R23: the four values of `STATE`. -/
inductive SeqState where
  /-- 0: no result held. -/
  | idle
  /-- 1: a command has been accepted and its completion step has not happened yet. -/
  | busy
  /-- 2: the last command ended with `Ok`. -/
  | done
  /-- 3: the last command ended with `Fail`. -/
  | error
  deriving DecidableEq, Repr

/-- R7: the three failure kinds. -/
inductive Err where
  | algorithmUnavailable
  | invalidKey
  | preconditionViolation
  deriving DecidableEq, Repr

/-- R24: the four values of the field `ERR`. -/
inductive ErrField where
  /-- 0: no error. -/
  | noError
  /-- 1 to 3: the kind of the failure that ended the last command. -/
  | kind (e : Err)
  deriving DecidableEq, Repr

/-- R7, R260: the outcome of a command's evaluation. -/
inductive CmdOutcome where
  | ok (b : List Byte)
  | fail (e : Err)
  deriving DecidableEq, Repr

/-- The faults of the machine: none. R260 and `93_implementation_defined.md` say that CORE has no hang, no
trap and no undefined result ("Nothing in CORE is `stuck`"); the three errors of `60_exceptions.md` are
next states with `STATE = ERROR`, not faults of the model. No constructor, so no step can stop with one:
safe. -/
inductive Fault where
  deriving DecidableEq, Repr

/-- Why the model has no step. -/
inductive Refusal where
  /-- Raised by `exec` alone, for an instruction that has no meaning yet; no arm does. Safe. -/
  | notModelled (mnemonic : String)
  /-- R63, U10: raised by `step` when the host presents an access of a width other than 4 bytes, which
  "a model refuses". Safe: the run stops there. -/
  | accessWidth (bytes : Nat)
  /-- R63, U10: raised by `step` when the host presents an access at an offset that is no multiple of 4.
  Safe, as above. -/
  | misalignedAccess (off : Nat)
  /-- R303, U11: raised by `step` when the host presents an access outside the 128-byte window, which does
  not reach this instance. Safe, as above. -/
  | outsideWindow (off : Nat)
  deriving DecidableEq, Repr

/-- R20: the state of one CORE instance, field for field, then the parameters it was built with (R5), then
the model's own fields: the host's side of the window, the reset input and what stands for time. -/
structure State where
  /-- `PW` (R29): the password. -/
  pw : Text
  /-- `USER` (R29): the username. -/
  user : Text
  /-- `DOM` (R29): the domain. -/
  dom : Text
  /-- `USER_V` (R29): a username is present. -/
  userV : Bool
  /-- `DOM_V` (R29): a domain is present. -/
  domV : Bool
  /-- `DATA` (R31). -/
  data : List Byte
  /-- `CH` (R32). -/
  ch : List Byte
  /-- `OVF_PW` (R30). -/
  ovfPw : Bool
  /-- `OVF_USER` (R30). -/
  ovfUser : Bool
  /-- `OVF_DOM` (R30). -/
  ovfDom : Bool
  /-- `OVF_DATA` (R30). -/
  ovfData : Bool
  /-- `OVF_CH` (R30). -/
  ovfCh : Bool
  /-- `OFFSET` (R28). -/
  offset : BitVec 16
  /-- `CMD` (R26). -/
  cmd : Word
  /-- `STATE` (R23). -/
  state : SeqState
  /-- `ERR` (R24). -/
  err : ErrField
  /-- `OUT` (R25), `OUT[0]` to `OUT[23]`. -/
  out : Bytes 24
  /-- `OUTLEN` (R25). -/
  outlen : BitVec 5
  /-- `IE` (R27). -/
  ie : Bool
  /-- R5, R39: the parameters of this instance, changed by no step. -/
  params : Config.Params
  /-- The model's own: the accesses the host has yet to have accepted, the next one first. -/
  pending : List BusAccess
  /-- The model's own: the words the host's reads have returned, in order. -/
  replies : List Word
  /-- The model's own: the level of the reset input at each coming step, the next one first; low after
  the last one. -/
  resetIn : List Bool
  /-- The model's own: how many steps the running command still takes before its completion step (R306). -/
  delay : Nat
  /-- The model's own: how many free values have been drawn so far. -/
  draw : Nat
  deriving DecidableEq, Repr

/-- R40, R290: the state right after reset, with the parameters of this hardware (R5), a host that has
issued nothing yet and a reset input that stays low. -/
def State.reset : State where
  pw := []
  user := []
  dom := []
  userV := false
  domV := false
  data := []
  ch := []
  ovfPw := false
  ovfUser := false
  ovfDom := false
  ovfData := false
  ovfCh := false
  offset := 0
  cmd := 0
  state := .idle
  err := .noError
  out := Vector.replicate 24 0
  outlen := 0
  ie := false
  params := Config.thisHardware
  pending := []
  replies := []
  resetIn := []
  delay := 0
  draw := 0

end Sys2Proof.Machine

namespace Sys2Proof

/-- R306, U14: the finite, unspecified time from an accepted write of `CMD` to the completion step, counted
in steps of the model. It may depend on everything there is when the write is accepted and on the word
written; the state's draw counter makes it free anew for every command. A free value, assumption 3. -/
opaque Config.latency : Machine.State → Word → Nat

/-- R290, U15: whether the platform cancels the access that was being held when reset arrived (true), or
lets it be performed against the reset state (false). A free value of the state, assumption 4. -/
opaque Config.resetCancelsHeld : Machine.State → Bool

end Sys2Proof
end

