-- ==== Sys2Proof/Machine/Flags.lean ====
section
/-! DEFINITION. Machine/Flags.lean: the numeric codes of `STATE` and `ERR` (R23, R24, R261), the interrupt
line (R36, R267) and the `STATUS` view (R34). -/

namespace Sys2Proof.Machine

/-- R23: the number of each value of `STATE`. -/
def SeqState.code : SeqState → BitVec 2
  | .idle => 0
  | .busy => 1
  | .done => 2
  | .error => 3

/-- R24, R261: the number of each failure kind. -/
def Err.code : Err → BitVec 2
  | .algorithmUnavailable => 1
  | .invalidKey => 2
  | .preconditionViolation => 3

/-- R24: the two bits of `ERR`. -/
def ErrField.code : ErrField → BitVec 2
  | .noError => 0
  | .kind e => e.code

/-- R267: the interrupt's pending condition, "the last command has completed and has not been
acknowledged". -/
def State.completed (s : State) : Bool := s.state == .done || s.state == .error

/-- R36: the output `irq`, a function of the state. -/
def State.irq (s : State) : Bool := s.ie && s.completed

/-- R34: the `STATUS` word, bit 31 first: 31:17 zero, 16 `IRQ`, 15 `OVF_CH`, 14 `OVF_DATA`, 13 `OVF_DOM`,
12 `OVF_USER`, 11 `OVF_PW`, 10 `DOM_V`, 9 `USER_V`, 8:4 `OUTLEN`, 3:2 `ERR`, 1:0 `STATE`. -/
def State.statusWord (s : State) : Word :=
  0#15 ++ BitVec.ofBool s.irq
    ++ BitVec.ofBool s.ovfCh ++ BitVec.ofBool s.ovfData ++ BitVec.ofBool s.ovfDom
    ++ BitVec.ofBool s.ovfUser ++ BitVec.ofBool s.ovfPw
    ++ BitVec.ofBool s.domV ++ BitVec.ofBool s.userV
    ++ s.outlen ++ s.err.code ++ s.state.code

end Sys2Proof.Machine
end

