-- ==== Sys2Proof/Machine/Ops.lean ====
section
/-! DEFINITION. Machine/Ops.lean: the named operations that every meaning is written over: byte sequences,
pushes and clears of the operand buffers, the register window, acceptance of an access, the start of a
command and its completion, the error entry (R268, this hardware's way of taking an exception), the
acknowledge that leaves it (R238, R269), and reset (R290). -/

namespace Sys2Proof.Machine

/-! ### Byte sequences (`00_scope.md` R8) -/

/-- R8: `zeros(n)`. -/
def zeros (n : Nat) : Bytes n := Vector.replicate n 0

/-- A byte sequence cut, or extended with zero bytes, to exactly `n` bytes: "truncate or null-pad" (R160),
and `b ++ zeros(24 - n)` (R93). -/
def fit (n : Nat) (b : List Byte) : Bytes n := Vector.ofFn fun i => b.getD i.val 0

/-- R8: the `n` bytes of `src` from index `off` on, `src[off..off+n)`. Every use is where
`off + n <= len(src)`. -/
def slice (n : Nat) (src : List Byte) (off : Nat) : Bytes n :=
  Vector.ofFn fun i => src.getD (off + i.val) 0

/-- R65, R192: four bytes as a 32-bit word, the lowest-numbered byte in the least significant lane. -/
def wordOfBytes (b : List Byte) (at_ : Nat) : Word :=
  b.getD (at_ + 3) 0 ++ b.getD (at_ + 2) 0 ++ b.getD (at_ + 1) 0 ++ b.getD at_ 0

/-! ### Operand buffers (`10_state.md` R29 to R32; `46_host_access.md` R231 to R237) -/

/-- R30: append within a capacity, or leave the buffer unchanged and set its overflow flag. The answer is
the buffer and the flag. -/
def pushWithin {α : Type} (cap : Nat) (buf : List α) (ovf : Bool) (x : α) : List α × Bool :=
  if buf.length < cap then (buf ++ [x], ovf) else (buf, true)

/-- R231, R67: `WR PW_PUSH`, code unit `v[15:0]`. -/
def State.pushPw (v : Word) (s : State) : State :=
  let r := pushWithin s.params.textMax s.pw s.ovfPw (v.extractLsb' 0 16)
  { s with pw := r.1, ovfPw := r.2 }

/-- R231, R67: `WR USER_PUSH`; "The presence flag is set even when the push overflows." -/
def State.pushUser (v : Word) (s : State) : State :=
  let r := pushWithin s.params.textMax s.user s.ovfUser (v.extractLsb' 0 16)
  { s with user := r.1, ovfUser := r.2, userV := true }

/-- R231, R67: `WR DOM_PUSH`. -/
def State.pushDom (v : Word) (s : State) : State :=
  let r := pushWithin s.params.textMax s.dom s.ovfDom (v.extractLsb' 0 16)
  { s with dom := r.1, ovfDom := r.2, domV := true }

/-- R232, R67: `WR DATA_PUSH`, byte `v[7:0]`. -/
def State.pushData (v : Word) (s : State) : State :=
  let r := pushWithin s.params.dataMax s.data s.ovfData (v.extractLsb' 0 8)
  { s with data := r.1, ovfData := r.2 }

/-- R233, R67: `WR CH_PUSH`, byte `v[7:0]`. -/
def State.pushCh (v : Word) (s : State) : State :=
  let r := pushWithin s.params.chMax s.ch s.ovfCh (v.extractLsb' 0 8)
  { s with ch := r.1, ovfCh := r.2 }

/-- R236, bit 0 `CLR_PW`. -/
def State.clearPw (s : State) : State := { s with pw := [], ovfPw := false }

/-- R236, bit 1 `CLR_USER`. -/
def State.clearUser (s : State) : State := { s with user := [], userV := false, ovfUser := false }

/-- R236, bit 2 `CLR_DOM`. -/
def State.clearDom (s : State) : State := { s with dom := [], domV := false, ovfDom := false }

/-- R236, bit 3 `CLR_DATA`. -/
def State.clearData (s : State) : State := { s with data := [], ovfData := false }

/-- R236, bit 4 `CLR_CH`. -/
def State.clearCh (s : State) : State := { s with ch := [], ovfCh := false }

/-- R237, bit 6 `SET_USER`. -/
def State.setUser (s : State) : State := { s with userV := true }

/-- R237, bit 7 `SET_DOM`. -/
def State.setDom (s : State) : State := { s with domV := true }

/-! ### Start, completion, error entry, acknowledge -/

/-- No result held: `OUT` zero, `OUTLEN` 0, `ERR` 0 (R25), with the sequencer in the given state. -/
def State.withoutResult (q : SeqState) (s : State) : State :=
  { s with out := zeros 24, outlen := 0, err := .noError, state := q }

/-- R92: the step an accepted write of `CMD` takes. The time to completion is drawn here (R306). -/
def State.start (w : Word) (s : State) : State :=
  { s.withoutResult .busy with cmd := w, delay := Config.latency s w, draw := s.draw + 1 }

/-- R93: the completion step of a command that ended with `Ok(b)`. -/
def State.deliver (b : List Byte) (s : State) : State :=
  { s with out := fit 24 b, outlen := BitVec.ofNat 5 b.length, err := .noError, state := .done, delay := 0 }

/-- R268: the error entry, the completion step of a command that ended with `Fail(e)`. -/
def State.errorEntry (e : Err) (s : State) : State :=
  { s with out := zeros 24, outlen := 0, err := .kind e, state := .error, delay := 0 }

/-- R93: the completion step for an outcome of `EXEC`. -/
def State.finish (r : CmdOutcome) (s : State) : State :=
  match r with
  | .ok b => s.deliver b
  | .fail e => s.errorEntry e

/-- R93, R23: a command's completion step, enabled while `STATE = BUSY` and in no other state; in the
other three there is nothing to complete and the state stays as it is. -/
def State.complete (r : CmdOutcome) (s : State) : Host.Outcome State Fault Refusal :=
  if s.state = .busy then .next (s.finish r) else .next s

/-- R97, R98 step 1: the completion step of an illegal command word. -/
def State.completeIllegal (s : State) : Host.Outcome State Fault Refusal :=
  s.complete (.fail .preconditionViolation)

/-- R238, bit 5 `ACK`: from `DONE` or `ERROR` to `IDLE`, the result or error erased; no effect in `IDLE`. -/
def State.acknowledge (s : State) : State :=
  if s.state = .done ∨ s.state = .error then s.withoutResult .idle else s

/-- R35, R236 to R238: the action of each bit of `CTRL`, in ascending bit order (R244). -/
def ctrlActions : List (Nat × (State → State)) :=
  [(0, State.clearPw), (1, State.clearUser), (2, State.clearDom), (3, State.clearData),
   (4, State.clearCh), (5, State.acknowledge), (6, State.setUser), (7, State.setDom)]

/-- R244: the actions of the bits of `m` that are 1, bit 0 first; bits 31:8 are ignored. -/
def State.control (m : Word) (s : State) : State :=
  ctrlActions.foldl (fun t a => if m.getLsbD a.1 then a.2 t else t) s

/-! ### The register window (`20_memory.md` R61, R64, R65) -/

/-- R242: a length register, the element count as a 32-bit unsigned number. -/
def lengthWord {α : Type} (buf : List α) : Word := BitVec.ofNat 32 buf.length

/-- R65, R243: `OUTk`. -/
def State.outWord (k : Nat) (s : State) : Word := wordOfBytes s.out.toList (4 * k)

/-- R61, R64: the value that a read at each offset of the window returns. A read changes nothing (R68), so
this is the model's read of one location. -/
def State.registerValue (off : Offset) (s : State) : Word :=
  match off.toNat with
  | 0x00 => s.cmd
  | 0x04 => s.statusWord
  | 0x0C => (BitVec.ofBool s.ie).setWidth 32
  | 0x24 => s.offset.setWidth 32
  | 0x28 => lengthWord s.pw
  | 0x2C => lengthWord s.user
  | 0x30 => lengthWord s.dom
  | 0x34 => lengthWord s.data
  | 0x38 => lengthWord s.ch
  | 0x40 => s.outWord 0
  | 0x44 => s.outWord 1
  | 0x48 => s.outWord 2
  | 0x4C => s.outWord 3
  | 0x50 => s.outWord 4
  | 0x54 => s.outWord 5
  | _ => 0

/-! ### Acceptance of an access (`20_memory.md` R69) -/

/-- R69: a held access is neither dropped nor answered: it stays the host's next access. -/
def State.hold (a : BusAccess) (s : State) : State := { s with pending := a :: s.pending }

/-- R69: while `STATE = BUSY` the access is held; in every other state it is accepted at once and has the
effect `k`. -/
def State.access (i : Instr) (k : State → State) (s : State) : Host.Outcome State Fault Refusal :=
  if s.state = .busy then .next (s.hold (encodeBus i)) else .next (k s)

/-- A read returns a word to the host and changes nothing else (R68). -/
def State.reply (v : Word) (s : State) : State := { s with replies := s.replies ++ [v] }

/-- The effect of a read of the register at an offset. -/
def State.readRegister (off : Offset) (s : State) : State := s.reply (s.registerValue off)

/-! ### Reset (`70_reset_and_hazards.md` R290) -/

/-- R69: the host's next access is one that `BUSY` holds, anything but a read of `STATUS`. -/
def State.holdsAccess (s : State) : Bool :=
  match s.state, s.pending with
  | .busy, a :: _ => (decodeAccess a).toOption != some .rdStatus
  | _, _ => false

/-- R290: reset is applied, whatever the state: every element of R20 takes its value of R40, a running
command is abandoned, and an access that was being held is afterwards performed against the reset state or
cancelled by the platform, which of the two being free (U15). The instance's parameters and what the host
has been told are not state of CORE and stay. -/
def State.applyReset (s : State) : State :=
  { State.reset with
    params := s.params
    pending := if s.holdsAccess && Config.resetCancelsHeld s then s.pending.tail else s.pending
    replies := s.replies
    resetIn := s.resetIn.tail
    draw := s.draw + 1 }

end Sys2Proof.Machine
end

