-- ==== Sys2Proof/Machine/HostRead.lean ====
section
/-! DEFINITION. Machine/HostRead.lean: the host's reads (`46_host_access.md` R234, R239 to R243;
`20_memory.md` R64). Each returns the register's value to the host and changes nothing else (R68). Every
read but that of `STATUS` is held while `STATE = BUSY` (R69, R245). -/

namespace Sys2Proof.Machine

/-- R241: "Accepted in every `STATE`, `BUSY` included; no side effect." -/
def execRdStatus (s : State) : Host.Outcome State Fault Refusal := .next (s.readRegister 0x04)

/-- R234. -/
def execRdCmd (s : State) : Host.Outcome State Fault Refusal :=
  s.access .rdCmd (State.readRegister 0x00)

/-- R239. -/
def execRdIen (s : State) : Host.Outcome State Fault Refusal :=
  s.access .rdIen (State.readRegister 0x0C)

/-- R240. -/
def execRdOffset (s : State) : Host.Outcome State Fault Refusal :=
  s.access .rdOffset (State.readRegister 0x24)

/-- R242. -/
def execRdPwlen (s : State) : Host.Outcome State Fault Refusal :=
  s.access .rdPwlen (State.readRegister 0x28)

/-- R242. -/
def execRdUserlen (s : State) : Host.Outcome State Fault Refusal :=
  s.access .rdUserlen (State.readRegister 0x2C)

/-- R242. -/
def execRdDomlen (s : State) : Host.Outcome State Fault Refusal :=
  s.access .rdDomlen (State.readRegister 0x30)

/-- R242. -/
def execRdDatalen (s : State) : Host.Outcome State Fault Refusal :=
  s.access .rdDatalen (State.readRegister 0x34)

/-- R242. -/
def execRdChlen (s : State) : Host.Outcome State Fault Refusal :=
  s.access .rdChlen (State.readRegister 0x38)

/-- R243. -/
def execRdOut0 (s : State) : Host.Outcome State Fault Refusal :=
  s.access .rdOut0 (State.readRegister 0x40)

/-- R243. -/
def execRdOut1 (s : State) : Host.Outcome State Fault Refusal :=
  s.access .rdOut1 (State.readRegister 0x44)

/-- R243. -/
def execRdOut2 (s : State) : Host.Outcome State Fault Refusal :=
  s.access .rdOut2 (State.readRegister 0x48)

/-- R243. -/
def execRdOut3 (s : State) : Host.Outcome State Fault Refusal :=
  s.access .rdOut3 (State.readRegister 0x4C)

/-- R243. -/
def execRdOut4 (s : State) : Host.Outcome State Fault Refusal :=
  s.access .rdOut4 (State.readRegister 0x50)

/-- R243. -/
def execRdOut5 (s : State) : Host.Outcome State Fault Refusal :=
  s.access .rdOut5 (State.readRegister 0x54)

/-- R64: a read of a write-only register or an unmapped offset returns zero. -/
def execRdReadsZero (off : Offset) (s : State) : Host.Outcome State Fault Refusal :=
  s.access (.rdReadsZero off) (State.reply 0)

end Sys2Proof.Machine
end

