-- ==== Sys2Proof/Machine/HostWrite.lean ====
section
/-! DEFINITION. Machine/HostWrite.lean: the host's writes (`46_host_access.md` R230 to R240; `20_memory.md`
R64). Each is held while `STATE = BUSY` and has its effect at once in every other state (R69, R245). -/

namespace Sys2Proof.Machine

/-- R230, R92: starts a command, for every word, legal or not. -/
def execWrCmd (w : Word) (s : State) : Host.Outcome State Fault Refusal :=
  s.access (.wrCmd w) (State.start w)

/-- R236, R237, R238, R244: the actions of the set bits, in ascending order. -/
def execWrCtrl (m : Word) (s : State) : Host.Outcome State Fault Refusal :=
  s.access (.wrCtrl m) (State.control m)

/-- R231. -/
def execWrPwPush (v : Word) (s : State) : Host.Outcome State Fault Refusal :=
  s.access (.wrPwPush v) (State.pushPw v)

/-- R231. -/
def execWrUserPush (v : Word) (s : State) : Host.Outcome State Fault Refusal :=
  s.access (.wrUserPush v) (State.pushUser v)

/-- R231. -/
def execWrDomPush (v : Word) (s : State) : Host.Outcome State Fault Refusal :=
  s.access (.wrDomPush v) (State.pushDom v)

/-- R232. -/
def execWrDataPush (v : Word) (s : State) : Host.Outcome State Fault Refusal :=
  s.access (.wrDataPush v) (State.pushData v)

/-- R233. -/
def execWrChPush (v : Word) (s : State) : Host.Outcome State Fault Refusal :=
  s.access (.wrChPush v) (State.pushCh v)

/-- R239: `IE` takes bit 0; bits 31:1 are ignored (R67). -/
def execWrIen (v : Word) (s : State) : Host.Outcome State Fault Refusal :=
  s.access (.wrIen v) fun t => { t with ie := v.getLsbD 0 }

/-- R240: `OFFSET` takes bits 15:0; bits 31:16 are ignored (R67). -/
def execWrOffset (v : Word) (s : State) : Host.Outcome State Fault Refusal :=
  s.access (.wrOffset v) fun t => { t with offset := v.extractLsb' 0 16 }

/-- R64: a write to a read-only register or an unmapped offset "is accepted and has no effect". -/
def execWrNoEffect (off : Offset) (v : Word) (s : State) : Host.Outcome State Fault Refusal :=
  s.access (.wrNoEffect off v) fun t => t

end Sys2Proof.Machine
end

