-- ==== Sys2Proof/Machine/Operands.lean ====
section
/-! DEFINITION. Machine/Operands.lean: the operand conditions the commands share (`60_exceptions.md` R263)
and the text encoders (`43_variant_dispatch.md` R171 to R173). -/

namespace Sys2Proof.Machine

/-! ### Operand conditions -/

/-- R32, R263 row P3: `CH` holds exactly 8 bytes (a challenge, a seed or a block). -/
def State.chOk (s : State) : Bool := s.ch.length == 8

/-- R32: the 8 bytes of `CH`, where `chOk` holds. -/
def State.ch8 (s : State) : Bytes 8 := fit 8 s.ch

/-- R178, R263 row P4: a username and a domain are present. -/
def State.identityPresent (s : State) : Bool := s.userV && s.domV

/-! ### Text encoders -/

/-- R171: the letters `a` to `z` to `A` to `Z`; every other unit unchanged. -/
def asciiUpper (c : CodeUnit) : CodeUnit :=
  if 0x0061 ≤ c ∧ c ≤ 0x007A then c - 0x0020 else c

/-- R171, R172: a code unit of the ASCII range, below 0x0080. -/
def isAscii (c : CodeUnit) : Bool := decide (c < 0x0080)

/-- The units of a text whose ASCII letters are mapped, each other unit replaced by the free text's unit at
its place (or kept, where the free text is too short). No lower-case letter comes out: `UPCASE` would map it
once more. -/
def fillOpenUnits : Text → Text → Text
  | [], _ => []
  | x :: u, free => (if isAscii x then x else asciiUpper (free.headD x)) :: fillOpenUnits u free.tail

/-- R171, U1: what the free value proposes for a text. The free value is one of the text with its ASCII
letters mapped, so that the case of ASCII letters does not matter (R168, assumption 16). -/
def upcaseProposal (t : Text) : Text :=
  let u := t.map asciiUpper
  fillOpenUnits u (Config.upcaseOpen u)

/-- R171: `UPCASE`. On a text of ASCII units it is the law. On every other text it has the laws of D7, which
R171 cites (length kept, ASCII units mapped by the law, idempotent; assumption 1), and is free in its other
units: the proposal where that is upper-cased already, and else the ASCII letters mapped and no more. Every
function with these laws and R168's is this one for some free value, namely itself. -/
def upcase (t : Text) : Text :=
  let r := upcaseProposal t
  if upcaseProposal r = r then r else t.map asciiUpper

/-- R172: `NARROW`, the identity below 0x0080 and free from there on (U2). -/
def narrow (c : CodeUnit) : Byte :=
  if isAscii c then c.extractLsb' 0 8 else Config.narrowOpen c

/-- R173: `UTF16LE`, the low byte of each unit first, no byte-order mark. -/
def utf16le : Text → List Byte
  | [] => []
  | c :: t => c.extractLsb' 0 8 :: c.extractLsb' 8 8 :: utf16le t

end Sys2Proof.Machine
end

