-- ==== Sys2Proof/Machine/Kex.lean ====
section
/-! DEFINITION. Machine/Kex.lean: the key-expansion unit KEX and the `KEYEXP` command
(`40_key_expansion.md` R120, R122, R124). -/

namespace Sys2Proof.Machine

/-- R120, stage 1: the eight 7-bit values, "All shifts operate on unsigned byte values". -/
def kexSeptets (s : Bytes 7) : Bytes 8 := #v[
  s[0] >>> 1,
  ((s[0] &&& 0x01) <<< 6) ||| (s[1] >>> 2),
  ((s[1] &&& 0x03) <<< 5) ||| (s[2] >>> 3),
  ((s[2] &&& 0x07) <<< 4) ||| (s[3] >>> 4),
  ((s[3] &&& 0x0F) <<< 3) ||| (s[4] >>> 5),
  ((s[4] &&& 0x1F) <<< 2) ||| (s[5] >>> 6),
  ((s[5] &&& 0x3F) <<< 1) ||| (s[6] >>> 7),
  s[6] &&& 0x7F]

/-- R120: `KEX`, stage 2 "every byte is left-shifted by 1 bit". -/
def kex (s : Bytes 7) : Bytes 8 := (kexSeptets s).map fun k : Byte => k <<< 1

/-- R124: `KEX_AT(src, off) = KEX(src[off..off+7))`, used where `off + 7 <= len(src)`. -/
def kexAt (src : List Byte) (off : Nat) : Bytes 8 := kex (slice 7 src off)

/-- R122: the evaluation of `KEYEXP`. -/
def evalKeyexp (s : State) : CmdOutcome :=
  if s.ovfData then .fail .preconditionViolation
  else if s.offset.toNat + 7 > s.data.length then .fail .preconditionViolation
  else .ok (kexAt s.data s.offset.toNat).toList

/-- R122, R93: the completion step of `KEYEXP`. -/
def execKeyexp (s : State) : Host.Outcome State Fault Refusal := s.complete (evalKeyexp s)

end Sys2Proof.Machine
end

