-- ==== Sys2Proof/Machine/Des.lean ====
section
/-! DEFINITION. Machine/Des.lean: the single-block DES-ECB encrypt engine and the `DESENC` command
(`41_des_ecb.md` R131 to R141, R145). A DES bit string of R131, whose bit 1 is the most significant bit of
byte 0, is a bit vector read from its most significant end: DES bit `p` of `x` is `x.getMsbD (p - 1)`. -/

namespace Sys2Proof.Machine

/-- R131: eight bytes as a bit string of 64, byte 0 first. -/
def bitsOfBytes (b : Bytes 8) : BitVec 64 :=
  b[0] ++ b[1] ++ b[2] ++ b[3] ++ b[4] ++ b[5] ++ b[6] ++ b[7]

/-- R131, "The conversion back is the inverse": byte `i` of a bit string of 64. -/
def bytesOfBits (x : BitVec 64) : Bytes 8 := Vector.ofFn fun i => x.extractLsb' (8 * (7 - i.val)) 8

/-- R132: a table applied to a bit string, `y[i] = x[T[i]]`, an `m`-bit string for a table of `m`
entries. -/
def select {n : Nat} (m : Nat) (table : List Nat) (x : BitVec n) : BitVec m :=
  (BitVec.ofBoolListBE (table.map fun p => x.getMsbD (p - 1))).setWidth m

/-- R133: the initial permutation `IP`. -/
def ipTable : List Nat :=
  [58, 50, 42, 34, 26, 18, 10, 2,
   60, 52, 44, 36, 28, 20, 12, 4,
   62, 54, 46, 38, 30, 22, 14, 6,
   64, 56, 48, 40, 32, 24, 16, 8,
   57, 49, 41, 33, 25, 17, 9, 1,
   59, 51, 43, 35, 27, 19, 11, 3,
   61, 53, 45, 37, 29, 21, 13, 5,
   63, 55, 47, 39, 31, 23, 15, 7]

/-- R134: the final permutation `FP`. -/
def fpTable : List Nat :=
  [40, 8, 48, 16, 56, 24, 64, 32,
   39, 7, 47, 15, 55, 23, 63, 31,
   38, 6, 46, 14, 54, 22, 62, 30,
   37, 5, 45, 13, 53, 21, 61, 29,
   36, 4, 44, 12, 52, 20, 60, 28,
   35, 3, 43, 11, 51, 19, 59, 27,
   34, 2, 42, 10, 50, 18, 58, 26,
   33, 1, 41, 9, 49, 17, 57, 25]

/-- R135: the expansion `E`. -/
def eTable : List Nat :=
  [32, 1, 2, 3, 4, 5,
   4, 5, 6, 7, 8, 9,
   8, 9, 10, 11, 12, 13,
   12, 13, 14, 15, 16, 17,
   16, 17, 18, 19, 20, 21,
   20, 21, 22, 23, 24, 25,
   24, 25, 26, 27, 28, 29,
   28, 29, 30, 31, 32, 1]

/-- R136: the permutation `P`. -/
def pTable : List Nat :=
  [16, 7, 20, 21,
   29, 12, 28, 17,
   1, 15, 23, 26,
   5, 18, 31, 10,
   2, 8, 24, 14,
   32, 27, 3, 9,
   19, 13, 30, 6,
   22, 11, 4, 25]

/-- R138: permuted choice 1. -/
def pc1Table : List Nat :=
  [57, 49, 41, 33, 25, 17, 9,
   1, 58, 50, 42, 34, 26, 18,
   10, 2, 59, 51, 43, 35, 27,
   19, 11, 3, 60, 52, 44, 36,
   63, 55, 47, 39, 31, 23, 15,
   7, 62, 54, 46, 38, 30, 22,
   14, 6, 61, 53, 45, 37, 29,
   21, 13, 5, 28, 20, 12, 4]

/-- R138: permuted choice 2. -/
def pc2Table : List Nat :=
  [14, 17, 11, 24, 1, 5,
   3, 28, 15, 6, 21, 10,
   23, 19, 12, 4, 26, 8,
   16, 7, 27, 20, 13, 2,
   41, 52, 31, 37, 47, 55,
   30, 40, 51, 45, 33, 48,
   44, 49, 39, 56, 34, 53,
   46, 42, 50, 36, 29, 32]

/-- R138: the left-rotation amounts of rounds 1 to 16. -/
def shiftAmounts : List Nat := [1, 1, 2, 2, 2, 2, 2, 2, 1, 2, 2, 2, 2, 2, 2, 1]

/-- R137: the substitution box `S1`, row by row. -/
def sBox1 : List (List Nat) :=
  [[14, 4, 13, 1, 2, 15, 11, 8, 3, 10, 6, 12, 5, 9, 0, 7],
   [0, 15, 7, 4, 14, 2, 13, 1, 10, 6, 12, 11, 9, 5, 3, 8],
   [4, 1, 14, 8, 13, 6, 2, 11, 15, 12, 9, 7, 3, 10, 5, 0],
   [15, 12, 8, 2, 4, 9, 1, 7, 5, 11, 3, 14, 10, 0, 6, 13]]

/-- R137: the substitution box `S2`, row by row. -/
def sBox2 : List (List Nat) :=
  [[15, 1, 8, 14, 6, 11, 3, 4, 9, 7, 2, 13, 12, 0, 5, 10],
   [3, 13, 4, 7, 15, 2, 8, 14, 12, 0, 1, 10, 6, 9, 11, 5],
   [0, 14, 7, 11, 10, 4, 13, 1, 5, 8, 12, 6, 9, 3, 2, 15],
   [13, 8, 10, 1, 3, 15, 4, 2, 11, 6, 7, 12, 0, 5, 14, 9]]

/-- R137: the substitution box `S3`, row by row. -/
def sBox3 : List (List Nat) :=
  [[10, 0, 9, 14, 6, 3, 15, 5, 1, 13, 12, 7, 11, 4, 2, 8],
   [13, 7, 0, 9, 3, 4, 6, 10, 2, 8, 5, 14, 12, 11, 15, 1],
   [13, 6, 4, 9, 8, 15, 3, 0, 11, 1, 2, 12, 5, 10, 14, 7],
   [1, 10, 13, 0, 6, 9, 8, 7, 4, 15, 14, 3, 11, 5, 2, 12]]

/-- R137: the substitution box `S4`, row by row. -/
def sBox4 : List (List Nat) :=
  [[7, 13, 14, 3, 0, 6, 9, 10, 1, 2, 8, 5, 11, 12, 4, 15],
   [13, 8, 11, 5, 6, 15, 0, 3, 4, 7, 2, 12, 1, 10, 14, 9],
   [10, 6, 9, 0, 12, 11, 7, 13, 15, 1, 3, 14, 5, 2, 8, 4],
   [3, 15, 0, 6, 10, 1, 13, 8, 9, 4, 5, 11, 12, 7, 2, 14]]

/-- R137: the substitution box `S5`, row by row. -/
def sBox5 : List (List Nat) :=
  [[2, 12, 4, 1, 7, 10, 11, 6, 8, 5, 3, 15, 13, 0, 14, 9],
   [14, 11, 2, 12, 4, 7, 13, 1, 5, 0, 15, 10, 3, 9, 8, 6],
   [4, 2, 1, 11, 10, 13, 7, 8, 15, 9, 12, 5, 6, 3, 0, 14],
   [11, 8, 12, 7, 1, 14, 2, 13, 6, 15, 0, 9, 10, 4, 5, 3]]

/-- R137: the substitution box `S6`, row by row. -/
def sBox6 : List (List Nat) :=
  [[12, 1, 10, 15, 9, 2, 6, 8, 0, 13, 3, 4, 14, 7, 5, 11],
   [10, 15, 4, 2, 7, 12, 9, 5, 6, 1, 13, 14, 0, 11, 3, 8],
   [9, 14, 15, 5, 2, 8, 12, 3, 7, 0, 4, 10, 1, 13, 11, 6],
   [4, 3, 2, 12, 9, 5, 15, 10, 11, 14, 1, 7, 6, 0, 8, 13]]

/-- R137: the substitution box `S7`, row by row. -/
def sBox7 : List (List Nat) :=
  [[4, 11, 2, 14, 15, 0, 8, 13, 3, 12, 9, 7, 5, 10, 6, 1],
   [13, 0, 11, 7, 4, 9, 1, 10, 14, 3, 5, 12, 2, 15, 8, 6],
   [1, 4, 11, 13, 12, 3, 7, 14, 10, 15, 6, 8, 0, 5, 9, 2],
   [6, 11, 13, 8, 1, 4, 10, 7, 9, 5, 0, 15, 14, 2, 3, 12]]

/-- R137: the substitution box `S8`, row by row. -/
def sBox8 : List (List Nat) :=
  [[13, 2, 8, 4, 6, 15, 11, 1, 10, 9, 3, 14, 5, 0, 12, 7],
   [1, 15, 13, 8, 10, 3, 7, 4, 12, 5, 6, 11, 0, 14, 9, 2],
   [7, 11, 4, 1, 9, 12, 14, 2, 0, 6, 10, 13, 15, 3, 5, 8],
   [2, 1, 14, 7, 4, 10, 8, 13, 15, 12, 9, 0, 3, 5, 6, 11]]

/-- R137: one box: row `b1 b6`, column `b2 b3 b4 b5`, the entry as a 4-bit number. -/
def substitute (box : List (List Nat)) (b : BitVec 6) : BitVec 4 :=
  let row := (b.extractLsb' 5 1 ++ b.extractLsb' 0 1).toNat
  let column := (b.extractLsb' 1 4).toNat
  BitVec.ofNat 4 ((box.getD row []).getD column 0)

/-- R141: the 6-bit group `B(j+1)` of a 48-bit string, `j` from 0. -/
def sixBits (x : BitVec 48) (j : Nat) : BitVec 6 := x.extractLsb' (42 - 6 * j) 6

/-- R141: the 32-bit string `S1(B1) ++ ... ++ S8(B8)`. -/
def substituteAll (x : BitVec 48) : BitVec 32 :=
  substitute sBox1 (sixBits x 0) ++ substitute sBox2 (sixBits x 1)
    ++ substitute sBox3 (sixBits x 2) ++ substitute sBox4 (sixBits x 3)
    ++ substitute sBox5 (sixBits x 4) ++ substitute sBox6 (sixBits x 5)
    ++ substitute sBox7 (sixBits x 6) ++ substitute sBox8 (sixBits x 7)

/-- R141: the round function `f(R, K)`. -/
def desRound (r : BitVec 32) (k : BitVec 48) : BitVec 32 :=
  select 32 pTable (substituteAll (select 48 eTable r ^^^ k))

/-- R138: the round keys that the halves `C`, `D` give under the remaining rotation amounts. -/
def roundKeys (c d : BitVec 28) : List Nat → List (BitVec 48)
  | [] => []
  | n :: rest =>
    let c' := c.rotateLeft n
    let d' := d.rotateLeft n
    select 48 pc2Table (c' ++ d' : BitVec 56) :: roundKeys c' d' rest

/-- R138: `KEYSCHED`, the sixteen round keys `K1` to `K16`. -/
def keySchedule (key : BitVec 64) : List (BitVec 48) :=
  let cd : BitVec 56 := select 56 pc1Table key
  roundKeys (cd.extractLsb' 28 28) (cd.extractLsb' 0 28) shiftAmounts

/-- R140: one round on the halves `(L, R)` under a round key. -/
def desHalves (lr : BitVec 32 × BitVec 32) (k : BitVec 48) : BitVec 32 × BitVec 32 :=
  (lr.2, lr.1 ^^^ desRound lr.2 k)

/-- R140: the cipher on bit strings; "the half R[16] comes first". -/
def desBits (key block : BitVec 64) : BitVec 64 :=
  let x : BitVec 64 := select 64 ipTable block
  let lr := (keySchedule key).foldl desHalves (x.extractLsb' 32 32, x.extractLsb' 0 32)
  select 64 fpTable (lr.2 ++ lr.1 : BitVec 64)

/-- R140, R130: `DES_ENC(key, block)`, one 8-byte block under one 8-byte key. -/
def desEnc (key block : Bytes 8) : Bytes 8 :=
  bytesOfBits (desBits (bitsOfBytes key) (bitsOfBytes block))

/-- R145: the evaluation of `DESENC`; the key is `DATA`, the block `CH`. -/
def evalDesenc (s : State) : CmdOutcome :=
  if !s.params.hasDes then .fail .algorithmUnavailable
  else if s.ovfData || s.ovfCh then .fail .preconditionViolation
  else if !s.chOk then .fail .preconditionViolation
  else if s.data.length ≠ 8 then .fail .invalidKey
  else .ok (desEnc (fit 8 s.data) s.ch8).toList

/-- R145, R93: the completion step of `DESENC`. -/
def execDesenc (s : State) : Host.Outcome State Fault Refusal := s.complete (evalDesenc s)

end Sys2Proof.Machine
end

