-- ==== Sys2Proof/Machine/Chain.lean ====
section
/-! DEFINITION. Machine/Chain.lean: the chaining sequencer CHAIN and the commands `P16`, `P24PW` and
`P24P21` (`42_p16_p24.md` R160 to R167). -/

namespace Sys2Proof.Machine

/-- R160: `P14`, the password upper-cased, narrowed, then cut or padded to 14 bytes. -/
def p14 (pw : Text) : Bytes 14 := fit 14 ((upcase pw).map narrow)

/-- R162: the well-known seed, `ascii("KGS!@#$%")`. -/
def kgs : Bytes 8 := #v[0x4B, 0x47, 0x53, 0x21, 0x40, 0x23, 0x24, 0x25]

/-- R161 with `P14` given: the seed under the two keys of the chunks at offsets 0 and 7. -/
def p16OfP14 (p : Bytes 14) (seed : Bytes 8) : Bytes 16 :=
  desEnc (kexAt p.toList 0) seed ++ desEnc (kexAt p.toList 7) seed

/-- R161: `P16(pw, seed8)`. -/
def p16 (pw : Text) (seed : Bytes 8) : Bytes 16 := p16OfP14 (p14 pw) seed

/-- R163: `P24(p21, ch)`, the challenge under the three keys of the chunks at offsets 0, 7 and 14. -/
def p24 (p21 : Bytes 21) (challenge : Bytes 8) : Bytes 24 :=
  desEnc (kexAt p21.toList 0) challenge ++ desEnc (kexAt p21.toList 7) challenge
    ++ desEnc (kexAt p21.toList 14) challenge

/-- R164, R177: a 16-byte hash zero-extended to a P21, the five zero bytes after the 16. -/
def p21OfHash (hash : Bytes 16) : Bytes 21 := hash ++ zeros 5

/-- R164: `P24PW(pw, ch)`. -/
def p24pw (pw : Text) (challenge : Bytes 8) : Bytes 24 := p24 (p21OfHash (p16 pw kgs)) challenge

/-- R165: the evaluation of `P16`. -/
def evalP16 (s : State) : CmdOutcome :=
  if !s.params.hasDes then .fail .algorithmUnavailable
  else if s.ovfPw || s.ovfCh then .fail .preconditionViolation
  else if !s.chOk then .fail .preconditionViolation
  else .ok (p16 s.pw s.ch8).toList

/-- R166: the evaluation of `P24PW`. -/
def evalP24pw (s : State) : CmdOutcome :=
  if !s.params.hasDes then .fail .algorithmUnavailable
  else if s.ovfPw || s.ovfCh then .fail .preconditionViolation
  else if !s.chOk then .fail .preconditionViolation
  else .ok (p24pw s.pw s.ch8).toList

/-- R167: the evaluation of `P24P21`; the P21 is `DATA`, as it stands. -/
def evalP24p21 (s : State) : CmdOutcome :=
  if !s.params.hasDes then .fail .algorithmUnavailable
  else if s.ovfData || s.ovfCh then .fail .preconditionViolation
  else if s.data.length ≠ 21 then .fail .preconditionViolation
  else if !s.chOk then .fail .preconditionViolation
  else .ok (p24 (fit 21 s.data) s.ch8).toList

/-- R165, R93: the completion step of `P16`. -/
def execP16 (s : State) : Host.Outcome State Fault Refusal := s.complete (evalP16 s)

/-- R166, R93: the completion step of `P24PW`. -/
def execP24pw (s : State) : Host.Outcome State Fault Refusal := s.complete (evalP24pw s)

/-- R167, R93: the completion step of `P24P21`. -/
def execP24p21 (s : State) : Host.Outcome State Fault Refusal := s.complete (evalP24p21 s)

end Sys2Proof.Machine
end

