-- ==== Sys2Proof/Machine/Hash.lean ====
section
/-! DEFINITION. Machine/Hash.lean: what the MD4 and MD5 cores share: padding, block words, the chaining
value, rotation, the round loop and the output order (`44_md4.md` R191 to R193, R197; `45_md5_hmac.md`
R211; `00_scope.md` R10). -/

namespace Sys2Proof.Machine

/-- R193, R195: the four words `A, B, C, D`, as chaining value and as working registers. -/
structure HashWords where
  a : Word
  b : Word
  c : Word
  d : Word
  deriving DecidableEq, Repr

/-- R10 (c): the 32-bit left rotation, for `1 <= s <= 31`. -/
def rol32 (x : Word) (s : Nat) : Word := (x <<< s) ||| (x >>> (32 - s))

/-- R193, R211: the initial chaining value. -/
def hashInit : HashWords := ⟨0x67452301, 0xEFCDAB89, 0x98BADCFE, 0x10325476⟩

/-- R197: a word as 4 bytes, least significant byte first. -/
def wordBytes (w : Word) : Bytes 4 :=
  #v[w.extractLsb' 0 8, w.extractLsb' 8 8, w.extractLsb' 16 8, w.extractLsb' 24 8]

/-- R191: `LEN8(n)`, the bit length modulo 2^64 as 8 bytes, least significant byte first. -/
def lengthBytes (n : Nat) : List Byte :=
  (List.range 8).map fun i => (BitVec.ofNat 64 (8 * n)).extractLsb' (8 * i) 8

/-- R191: the number `z` of zero bytes, the least making `n + 1 + z` congruent to 56 modulo 64. -/
def padZeros (n : Nat) : Nat := (119 - n % 64) % 64

/-- R191: `PAD(m)`. -/
def pad (m : List Byte) : List Byte :=
  m ++ [0x80] ++ List.replicate (padZeros m.length) 0 ++ lengthBytes m.length

/-- R192: the sixteen words `X[0..15]` of the block that starts at byte `at_`. -/
def blockWords (p : List Byte) (at_ : Nat) : List Word :=
  (List.range 16).map fun j => wordOfBytes ((p.drop at_).take 64) (4 * j)

/-- R198, R217: the final addition of a block, `A +32 a` and so on. -/
def HashWords.add (x y : HashWords) : HashWords := ⟨x.a + y.a, x.b + y.b, x.c + y.c, x.d + y.d⟩

/-- R198, R217: the loop over the blocks of the padded message, given the steps of one block. -/
def hashBlocks (steps : List Word → HashWords → HashWords) (p : List Byte) : HashWords :=
  (List.range (p.length / 64)).foldl
    (fun chain q => chain.add (steps (blockWords p (64 * q)) chain)) hashInit

/-- R197: the digest, `A`, `B`, `C`, `D` in that order. -/
def digest (h : HashWords) : Bytes 16 :=
  wordBytes h.a ++ wordBytes h.b ++ wordBytes h.c ++ wordBytes h.d

/-- R196, R216: one round: its 16 steps, the `j`-th with the `j`-th word index and the rotation at position
`j mod 4`. -/
def hashRound (step : Nat → Nat → Nat → HashWords → HashWords) (ks ss : List Nat) (r : HashWords) :
    HashWords :=
  (List.range 16).foldl (fun t j => step j (ks.getD j 0) (ss.getD (j % 4) 0) t) r

end Sys2Proof.Machine
end

