-- ==== Sys2Proof/Machine/Md4.lean ====
section
/-! DEFINITION. Machine/Md4.lean: the MD4 hash core and the `MD4` command (`44_md4.md` R194 to R199). -/

namespace Sys2Proof.Machine

/-- R194: `F(x, y, z)`, also MD5's (R213). -/
def hashF (x y z : Word) : Word := (x &&& y) ||| (~~~x &&& z)

/-- R194: MD4's `G(x, y, z)`. -/
def md4G (x y z : Word) : Word := (x &&& y) ||| (x &&& z) ||| (y &&& z)

/-- R194: `H(x, y, z)`, also MD5's (R213). -/
def hashH (x y z : Word) : Word := x ^^^ y ^^^ z

/-- R195: `STEP(f, k, c0, s)`. -/
def md4Step (f : Word → Word → Word → Word) (c0 : Word) (x : List Word) (k s : Nat) (r : HashWords) :
    HashWords :=
  ⟨r.d, rol32 (r.a + f r.b r.c r.d + x.getD k 0 + c0) s, r.b, r.c⟩

/-- R196, round 1. -/
def md4Round1 (x : List Word) : HashWords → HashWords :=
  hashRound (fun _ => md4Step hashF 0x00000000 x)
    [0, 1, 2, 3, 4, 5, 6, 7, 8, 9, 10, 11, 12, 13, 14, 15] [3, 7, 11, 19]

/-- R196, round 2. -/
def md4Round2 (x : List Word) : HashWords → HashWords :=
  hashRound (fun _ => md4Step md4G 0x5A827999 x)
    [0, 4, 8, 12, 1, 5, 9, 13, 2, 6, 10, 14, 3, 7, 11, 15] [3, 5, 9, 13]

/-- R196, round 3. -/
def md4Round3 (x : List Word) : HashWords → HashWords :=
  hashRound (fun _ => md4Step hashH 0x6ED9EBA1 x)
    [0, 8, 4, 12, 2, 10, 6, 14, 1, 9, 5, 13, 3, 11, 7, 15] [3, 9, 11, 15]

/-- R196: the 48 steps of one block. -/
def md4Steps (x : List Word) (r : HashWords) : HashWords := md4Round3 x (md4Round2 x (md4Round1 x r))

/-- R198: `MD4(m)`. -/
def md4 (m : List Byte) : Bytes 16 := digest (hashBlocks md4Steps (pad m))

/-- R199: the evaluation of `MD4`. -/
def evalMd4 (s : State) : CmdOutcome :=
  if !s.params.hasMd4 then .fail .algorithmUnavailable
  else if s.ovfData then .fail .preconditionViolation
  else .ok (md4 s.data).toList

/-- R199, R93: the completion step of `MD4`. -/
def execMd4 (s : State) : Host.Outcome State Fault Refusal := s.complete (evalMd4 s)

end Sys2Proof.Machine
end

