-- ==== Sys2Proof/Machine/Md5.lean ====
section
/-! DEFINITION. Machine/Md5.lean: the MD5 core and the HMAC-MD5 wrapper (`45_md5_hmac.md` R211 to R218). No
command of their own; `RESPONSE.NTLM2` uses them. -/

namespace Sys2Proof.Machine

/-- R213: MD5's `G(x, y, z)`. -/
def md5G (x y z : Word) : Word := (x &&& z) ||| (y &&& ~~~z)

/-- R213: `I(x, y, z)`. -/
def md5I (x y z : Word) : Word := y ^^^ (x ||| ~~~z)

/-- R214: the additive constants `T[1..64]`, `T[1]` first. -/
def md5Table : List Word :=
  [0xD76AA478, 0xE8C7B756, 0x242070DB, 0xC1BDCEEE,
   0xF57C0FAF, 0x4787C62A, 0xA8304613, 0xFD469501,
   0x698098D8, 0x8B44F7AF, 0xFFFF5BB1, 0x895CD7BE,
   0x6B901122, 0xFD987193, 0xA679438E, 0x49B40821,
   0xF61E2562, 0xC040B340, 0x265E5A51, 0xE9B6C7AA,
   0xD62F105D, 0x02441453, 0xD8A1E681, 0xE7D3FBC8,
   0x21E1CDE6, 0xC33707D6, 0xF4D50D87, 0x455A14ED,
   0xA9E3E905, 0xFCEFA3F8, 0x676F02D9, 0x8D2A4C8A,
   0xFFFA3942, 0x8771F681, 0x6D9D6122, 0xFDE5380C,
   0xA4BEEA44, 0x4BDECFA9, 0xF6BB4B60, 0xBEBFBC70,
   0x289B7EC6, 0xEAA127FA, 0xD4EF3085, 0x04881D05,
   0xD9D4D039, 0xE6DB99E5, 0x1FA27CF8, 0xC4AC5665,
   0xF4292244, 0x432AFF97, 0xAB9423A7, 0xFC93A039,
   0x655B59C3, 0x8F0CCC92, 0xFFEFF47D, 0x85845DD1,
   0x6FA87E4F, 0xFE2CE6E0, 0xA3014314, 0x4E0811A1,
   0xF7537E82, 0xBD3AF235, 0x2AD7D2BB, 0xEB86D391]

/-- R215: `STEP5(f, k, s, i)`, with the step number `i` in 1..64 given as `i - 1`. -/
def md5Step (f : Word → Word → Word → Word) (x : List Word) (i k s : Nat) (r : HashWords) : HashWords :=
  ⟨r.d, r.b + rol32 (r.a + f r.b r.c r.d + x.getD k 0 + md5Table.getD i 0) s, r.b, r.c⟩

/-- R216, round 1, steps 1 to 16. -/
def md5Round1 (x : List Word) : HashWords → HashWords :=
  hashRound (fun j => md5Step hashF x j)
    [0, 1, 2, 3, 4, 5, 6, 7, 8, 9, 10, 11, 12, 13, 14, 15] [7, 12, 17, 22]

/-- R216, round 2, steps 17 to 32. -/
def md5Round2 (x : List Word) : HashWords → HashWords :=
  hashRound (fun j => md5Step md5G x (16 + j))
    [1, 6, 11, 0, 5, 10, 15, 4, 9, 14, 3, 8, 13, 2, 7, 12] [5, 9, 14, 20]

/-- R216, round 3, steps 33 to 48. -/
def md5Round3 (x : List Word) : HashWords → HashWords :=
  hashRound (fun j => md5Step hashH x (32 + j))
    [5, 8, 11, 14, 1, 4, 7, 10, 13, 0, 3, 6, 9, 12, 15, 2] [4, 11, 16, 23]

/-- R216, round 4, steps 49 to 64. -/
def md5Round4 (x : List Word) : HashWords → HashWords :=
  hashRound (fun j => md5Step md5I x (48 + j))
    [0, 7, 14, 5, 12, 3, 10, 1, 8, 15, 6, 13, 4, 11, 2, 9] [6, 10, 15, 21]

/-- R216: the 64 steps of one block. -/
def md5Steps (x : List Word) (r : HashWords) : HashWords :=
  md5Round4 x (md5Round3 x (md5Round2 x (md5Round1 x r)))

/-- R217: `MD5(m)`. -/
def md5 (m : List Byte) : Bytes 16 := digest (hashBlocks md5Steps (pad m))

/-- R218: the key zero-padded to MD5's block size of 64 bytes; the key has at most 64 (R219). -/
def hmacKey (key : List Byte) : List Byte := (fit 64 key).toList

/-- R218: `HMAC_MD5(key, msg)`, for a key of at most 64 bytes (R219). -/
def hmacMd5 (key msg : List Byte) : Bytes 16 :=
  let inner := md5 (((hmacKey key).map fun b : Byte => b ^^^ 0x36) ++ msg)
  md5 (((hmacKey key).map fun b : Byte => b ^^^ 0x5C) ++ inner.toList)

end Sys2Proof.Machine
end

