-- ==== Sys2Proof/Machine/Response.lean ====
section
/-! DEFINITION. Machine/Response.lean: the variant-dispatch multiplexer: the four `RESPONSE` commands and
`AVAIL` (`43_variant_dispatch.md` R176 to R182). -/

namespace Sys2Proof.Machine

/-- R7, R94: the HashVariant. -/
inductive Variant where
  | lanman
  | ntlm1
  | ntlm2
  | md4Raw
  deriving DecidableEq, Repr

/-- R180, `MD4_RAW`: the digest of the password as given, in UTF-16LE. -/
def ntHash (pw : Text) : Bytes 16 := md4 (utf16le pw)

/-- R180, `NTLM1`. -/
def ntlm1Response (pw : Text) (challenge : Bytes 8) : Bytes 24 := p24 (p21OfHash (ntHash pw)) challenge

/-- R180, `NTLM2`: keyed by the MD4_RAW result, over the upper-cased username and domain. -/
def ntlm2Response (pw user dom : Text) : Bytes 16 :=
  hmacMd5 (ntHash pw).toList (utf16le (upcase (user ++ dom)))

/-- R180: `RESPONSE(v, pw, ch, user, dom)`. -/
def response (v : Variant) (pw : Text) (challenge : Bytes 8) (user dom : Text) : List Byte :=
  match v with
  | .lanman => (p24pw pw challenge).toList
  | .ntlm1 => (ntlm1Response pw challenge).toList
  | .ntlm2 => (ntlm2Response pw user dom).toList
  | .md4Raw => (ntHash pw).toList

/-- R180 on the operands of the state. -/
def State.response (v : Variant) (s : State) : List Byte :=
  Sys2Proof.Machine.response v s.pw s.ch8 s.user s.dom

/-- R176: the evaluation of `RESPONSE.LANMAN`. -/
def evalResponseLanman (s : State) : CmdOutcome :=
  if !s.params.hasDes then .fail .algorithmUnavailable
  else if s.ovfPw || s.ovfCh then .fail .preconditionViolation
  else if !s.chOk then .fail .preconditionViolation
  else .ok (s.response .lanman)

/-- R177: the evaluation of `RESPONSE.NTLM1`. -/
def evalResponseNtlm1 (s : State) : CmdOutcome :=
  if !s.params.hasMd4 || !s.params.hasDes then .fail .algorithmUnavailable
  else if s.ovfPw || s.ovfCh then .fail .preconditionViolation
  else if !s.chOk then .fail .preconditionViolation
  else .ok (s.response .ntlm1)

/-- R178: the evaluation of `RESPONSE.NTLM2`. -/
def evalResponseNtlm2 (s : State) : CmdOutcome :=
  if !s.params.hasMd4 || !s.params.hasHmacMd5 then .fail .algorithmUnavailable
  else if s.ovfPw || s.ovfCh then .fail .preconditionViolation
  else if !s.chOk then .fail .preconditionViolation
  else if !s.identityPresent then .fail .preconditionViolation
  else if s.ovfUser || s.ovfDom then .fail .preconditionViolation
  else .ok (s.response .ntlm2)

/-- R179: the evaluation of `RESPONSE.MD4_RAW`. -/
def evalResponseMd4Raw (s : State) : CmdOutcome :=
  if !s.params.hasMd4 then .fail .algorithmUnavailable
  else if s.ovfPw || s.ovfCh then .fail .preconditionViolation
  else if !s.chOk then .fail .preconditionViolation
  else .ok (s.response .md4Raw)

/-- R182: the evaluation of `AVAIL`, which never fails. -/
def evalAvail (s : State) : CmdOutcome :=
  .ok [if s.params.hasDes && s.params.hasMd4 && s.params.hasHmacMd5 then 0x01 else 0x00]

/-- R176, R93: the completion step of `RESPONSE.LANMAN`. -/
def execResponseLanman (s : State) : Host.Outcome State Fault Refusal := s.complete (evalResponseLanman s)

/-- R177, R93: the completion step of `RESPONSE.NTLM1`. -/
def execResponseNtlm1 (s : State) : Host.Outcome State Fault Refusal := s.complete (evalResponseNtlm1 s)

/-- R178, R93: the completion step of `RESPONSE.NTLM2`. -/
def execResponseNtlm2 (s : State) : Host.Outcome State Fault Refusal := s.complete (evalResponseNtlm2 s)

/-- R179, R93: the completion step of `RESPONSE.MD4_RAW`. -/
def execResponseMd4Raw (s : State) : Host.Outcome State Fault Refusal := s.complete (evalResponseMd4Raw s)

/-- R182, R93: the completion step of `AVAIL`. -/
def execAvail (s : State) : Host.Outcome State Fault Refusal := s.complete (evalAvail s)

end Sys2Proof.Machine
end

