-- ==== Sys2Proof/Machine/Dispatch.lean ====
section
/-! DEFINITION. Machine/Dispatch.lean: one arm for each constructor of `Instr`, each one direct call of the
instruction's meaning. -/

namespace Sys2Proof.Machine

def exec (i : Instr) (s : State) : Host.Outcome State Fault Refusal :=
  match i with
  -- the command words (R95): completion steps of the sequencer
  | .keyexp => Sys2Proof.Machine.execKeyexp s
  | .desenc => Sys2Proof.Machine.execDesenc s
  | .p16 => Sys2Proof.Machine.execP16 s
  | .p24pw => Sys2Proof.Machine.execP24pw s
  | .p24p21 => Sys2Proof.Machine.execP24p21 s
  | .md4 => Sys2Proof.Machine.execMd4 s
  | .responseLanman => Sys2Proof.Machine.execResponseLanman s
  | .responseNtlm1 => Sys2Proof.Machine.execResponseNtlm1 s
  | .responseNtlm2 => Sys2Proof.Machine.execResponseNtlm2 s
  | .responseMd4Raw => Sys2Proof.Machine.execResponseMd4Raw s
  | .avail => Sys2Proof.Machine.execAvail s
  -- the host's writes
  | .wrCmd v => Sys2Proof.Machine.execWrCmd v s
  | .wrCtrl v => Sys2Proof.Machine.execWrCtrl v s
  | .wrIen v => Sys2Proof.Machine.execWrIen v s
  | .wrPwPush v => Sys2Proof.Machine.execWrPwPush v s
  | .wrUserPush v => Sys2Proof.Machine.execWrUserPush v s
  | .wrDomPush v => Sys2Proof.Machine.execWrDomPush v s
  | .wrDataPush v => Sys2Proof.Machine.execWrDataPush v s
  | .wrChPush v => Sys2Proof.Machine.execWrChPush v s
  | .wrOffset v => Sys2Proof.Machine.execWrOffset v s
  -- the host's reads
  | .rdCmd => Sys2Proof.Machine.execRdCmd s
  | .rdStatus => Sys2Proof.Machine.execRdStatus s
  | .rdIen => Sys2Proof.Machine.execRdIen s
  | .rdOffset => Sys2Proof.Machine.execRdOffset s
  | .rdPwlen => Sys2Proof.Machine.execRdPwlen s
  | .rdUserlen => Sys2Proof.Machine.execRdUserlen s
  | .rdDomlen => Sys2Proof.Machine.execRdDomlen s
  | .rdDatalen => Sys2Proof.Machine.execRdDatalen s
  | .rdChlen => Sys2Proof.Machine.execRdChlen s
  | .rdOut0 => Sys2Proof.Machine.execRdOut0 s
  | .rdOut1 => Sys2Proof.Machine.execRdOut1 s
  | .rdOut2 => Sys2Proof.Machine.execRdOut2 s
  | .rdOut3 => Sys2Proof.Machine.execRdOut3 s
  | .rdOut4 => Sys2Proof.Machine.execRdOut4 s
  | .rdOut5 => Sys2Proof.Machine.execRdOut5 s
  -- the two default rows (R64)
  | .wrNoEffect off v => Sys2Proof.Machine.execWrNoEffect off v s
  | .rdReadsZero off => Sys2Proof.Machine.execRdReadsZero off s

end Sys2Proof.Machine
end

