-- ==== Sys2Proof/Machine/Sequencer.lean ====
section
/-! DEFINITION. Machine/Sequencer.lean: what the next step is (`00_scope.md` R6: the host, the sequencer,
reset) and where its instruction comes from: the word in `CMD` for a completion step, the host's next
access otherwise. CORE itself has no program counter (R22); `pending` stands for the host's program. -/

namespace Sys2Proof.Machine

/-- What happens next. -/
inductive Event where
  /-- R290: the reset input is active. -/
  | reset
  /-- R93: the completion step of the command word in `CMD`. -/
  | complete (w : Word)
  /-- R62: the host presents its next access. -/
  | access (a : BusAccess)
  /-- R306: a command runs, its time is not over, and the host presents nothing. -/
  | wait
  /-- R307: nothing runs and the host presents nothing; "an idle unit simply takes no steps". -/
  | rest
  deriving DecidableEq, Repr

/-- R290, R93, R69, R307: reset before everything; while `BUSY` the completion step once the command's time
is over; otherwise the host's next access, if there is one. -/
def State.nextEvent (s : State) : Event :=
  if s.resetIn.head? = some true then .reset
  else if s.state = .busy ∧ s.delay = 0 then .complete s.cmd
  else
    match s.pending with
    | a :: _ => .access a
    | [] => if s.state = .busy then .wait else .rest

/-- One step's worth of time: the sample of the reset input is used up, and a running command is one step
nearer its completion. -/
def State.tick (s : State) : State :=
  { s with resetIn := s.resetIn.tail, delay := s.delay - 1 }

/-- The host's next access is taken off its program; `hold` puts back one that is not accepted. -/
def State.pop (s : State) : State := { s with pending := s.pending.tail }

/-- R63, R303: the refusal of an access outside the interface. -/
def refusalOf : AccessError → Refusal
  | .accessWidth n => .accessWidth n
  | .misaligned off => .misalignedAccess off
  | .outsideWindow off => .outsideWindow off

/-- The state in which the very next step runs a command word: as after an accepted `WR CMD, w` whose time
is over. -/
def State.withCommand (w : Word) (s : State) : State :=
  { s.start w with delay := 0, draw := s.draw, resetIn := [] }

/-- The state in which the very next step is the host's access `a`: it is the host's next access, no reset
is applied, and no command is running that would hold it. -/
def State.withAccess (a : BusAccess) (s : State) : State :=
  { s with
    pending := a :: s.pending
    resetIn := []
    state := if s.state = .busy then .idle else s.state
    delay := 0 }

end Sys2Proof.Machine
end

