-- ==== Sys2Proof/Machine/Step.lean ====
section
/-! DEFINITION. Machine/Step.lean: one step of the machine, and the placing of an instruction where the next
step fetches it. -/

namespace Sys2Proof.Machine

/-- One step: reset (R290), a completion step (R93), an access of the host (R62, R69), or time passing. An
illegal command word completes with the error entry (R97); an access outside the interface is refused
(R63). -/
def step (s : State) : Host.Outcome State Fault Refusal :=
  match s.nextEvent with
  | .reset => .next s.applyReset
  | .complete w =>
    match decodeCommand w with
    | .ok i => exec i s.tick
    | .error _ => s.tick.completeIllegal
  | .access a =>
    match decodeAccess a with
    | .ok i => exec i s.tick.pop
    | .error e => .refused (refusalOf e)
  | .wait => .next s.tick
  | .rest => .next s.tick

/-- `s` with the instruction of the opcode table's bits `w` where the next step fetches it: a command word
in `CMD` with the sequencer at its completion step, an access as the host's next one. -/
def State.withFetchWord (s : State) (nbits w : Nat) : State :=
  match tableEncoded nbits w with
  | .cmdw c => s.withCommand c
  | .bus a => s.withAccess a

end Sys2Proof.Machine
end

