-- ==== Sys2Proof/Machine/Script.lean ====
section
/-! DEFINITION. Machine/Script.lean: the host-script lines and pseudo-operations of `30_encoding.md` R102
and R103 as the bus accesses they expand to. A host program is such a list in `State.pending`. -/

namespace Sys2Proof.Machine

/-- R102: the operand buffers `buf` of `PUSH` and `CLR`. -/
inductive Buffer where
  | pw
  | user
  | dom
  | data
  | ch
  deriving DecidableEq, Repr

/-- R102: `WR reg, value` and `RD reg` as the access an instruction is. -/
def Script.line (i : Instr) : List BusAccess := [encodeBus i]

/-- R102: `START cmd`, `WR CMD, word(cmd)`. -/
def Script.start (command : Instr) : List BusAccess := [encodeBus command]

/-- R102: `PUSH buf, v`. -/
def Script.push (b : Buffer) (v : Word) : List BusAccess :=
  match b with
  | .pw => [encodeBus (.wrPwPush v)]
  | .user => [encodeBus (.wrUserPush v)]
  | .dom => [encodeBus (.wrDomPush v)]
  | .data => [encodeBus (.wrDataPush v)]
  | .ch => [encodeBus (.wrChPush v)]

/-- R102: the clear bit of a buffer. -/
def Buffer.clearBit : Buffer → Word
  | .pw => 0x01
  | .user => 0x02
  | .dom => 0x04
  | .data => 0x08
  | .ch => 0x10

/-- R102: `CLR b1[, b2 ...]`, one write of `CTRL`. -/
def Script.clear (bs : List Buffer) : List BusAccess :=
  [encodeBus (.wrCtrl (bs.foldl (fun m b => m ||| b.clearBit) 0))]

/-- R102: `SETP USER`. -/
def Script.setUser : List BusAccess := [encodeBus (.wrCtrl 0x40)]

/-- R102: `SETP DOM`. -/
def Script.setDom : List BusAccess := [encodeBus (.wrCtrl 0x80)]

/-- R102: `ACK`. -/
def Script.ack : List BusAccess := [encodeBus (.wrCtrl 0x20)]

/-- R103: `TEXT buf, "s"`; the empty text declares a username or a domain present, and is nothing for a
password. -/
def Script.text (b : Buffer) (t : Text) : List BusAccess :=
  match b, t with
  | .user, [] => Script.setUser
  | .dom, [] => Script.setDom
  | b, t => t.flatMap fun c => Script.push b (c.setWidth 32)

/-- R103: `BYTES buf, hex`. -/
def Script.bytes (b : Buffer) (l : List Byte) : List BusAccess :=
  l.flatMap fun x => Script.push b (x.setWidth 32)

/-- R103: `WAIT` in a run in which `polls` reads of `STATUS` return `BUSY` before the last one. -/
def Script.wait (polls : Nat) : List BusAccess := List.replicate (polls + 1) (encodeBus .rdStatus)

/-- R103: the read of `OUTk`. -/
def Script.outRead : Nat → List BusAccess
  | 0 => [encodeBus .rdOut0]
  | 1 => [encodeBus .rdOut1]
  | 2 => [encodeBus .rdOut2]
  | 3 => [encodeBus .rdOut3]
  | 4 => [encodeBus .rdOut4]
  | 5 => [encodeBus .rdOut5]
  | _ => []

/-- R103: `OUT n`, the reads of `OUT0` to `OUT(k-1)` with `k = ceil(n / 4)`. -/
def Script.out (n : Nat) : List BusAccess := (List.range ((n + 3) / 4)).flatMap Script.outRead

/-- R103: `CLRALL`. -/
def Script.clearAll : List BusAccess := Script.clear [.pw, .user, .dom, .data, .ch]

end Sys2Proof.Machine
end

