-- ==== Sys2Proof/Safety.lean ====
section
/-! DEFINITION. Safety.lean: the terms claims are stated in: the invariant of `10_state.md` R38, the end of
a run (R307), programs inside the interface (R63), the tables R96 and R263 read by condition, and the
machine with the start and the completion of a command merged (R69). -/

namespace Sys2Proof.Machine

/-! ### The invariant (R38) -/

/-- R38 (a), R24: `ERR != 0` if and only if `STATE = ERROR`. -/
abbrev State.errMatches (s : State) : Prop := s.err ≠ .noError ↔ s.state = .error

/-- R38 (b): `OUTLEN != 0` only if `STATE = DONE`. -/
abbrev State.outlenOnlyDone (s : State) : Prop := s.outlen ≠ 0 → s.state = .done

/-- R38 (c), R25: `OUT[OUTLEN..24)` is all zero. -/
abbrev State.outTailZero (s : State) : Prop := ∀ i : Fin 24, s.outlen.toNat ≤ i.val → s.out[i] = 0

/-- R38 (d): `OUTLEN` is one of 0, 1, 8, 16, 24. -/
abbrev State.outlenLegal (s : State) : Prop :=
  s.outlen = 0 ∨ s.outlen = 1 ∨ s.outlen = 8 ∨ s.outlen = 16 ∨ s.outlen = 24

/-- R38 (e): every buffer is within its capacity. -/
abbrev State.withinCapacity (s : State) : Prop :=
  s.pw.length ≤ s.params.textMax ∧ s.user.length ≤ s.params.textMax ∧ s.dom.length ≤ s.params.textMax
    ∧ s.data.length ≤ s.params.dataMax ∧ s.ch.length ≤ s.params.chMax

/-- R38 (f): a username or domain that holds a unit is present. -/
abbrev State.presenceMarked (s : State) : Prop :=
  (0 < s.user.length → s.userV = true) ∧ (0 < s.dom.length → s.domV = true)

/-- R38 (g): an overflow flag is 1 only if its buffer is at capacity. -/
abbrev State.overflowAtCapacity (s : State) : Prop :=
  (s.ovfPw = true → s.pw.length = s.params.textMax)
    ∧ (s.ovfUser = true → s.user.length = s.params.textMax)
    ∧ (s.ovfDom = true → s.dom.length = s.params.textMax)
    ∧ (s.ovfData = true → s.data.length = s.params.dataMax)
    ∧ (s.ovfCh = true → s.ch.length = s.params.chMax)

/-- R38, all seven parts. -/
abbrev State.Inv (s : State) : Prop :=
  s.errMatches ∧ s.outlenOnlyDone ∧ s.outTailZero ∧ s.outlenLegal ∧ s.withinCapacity
    ∧ s.presenceMarked ∧ s.overflowAtCapacity

/-! ### Runs -/

/-- R307: the run of a host script is over: nothing is pending and no command runs. -/
abbrev State.atEnd (s : State) : Prop := s.pending = [] ∧ s.state ≠ .busy

/-- R63, R303: every access the host has yet to issue is one the interface defines. -/
abbrev State.scriptDefined (s : State) : Prop := ∀ a ∈ s.pending, a.wellFormed = true

/-- The state of R20 alone, with the parameters: the model's own fields blanked. Two states with equal
`core` are the same CORE instance in the same state. -/
def State.core (s : State) : State :=
  { s with pending := [], replies := [], resetIn := [], delay := 0, draw := 0 }

/-- The elements of R20 that a command may read (R21): buffers, presence flags, overflow flags, `OFFSET`. -/
abbrev State.sameOperands (s t : State) : Prop :=
  s.pw = t.pw ∧ s.user = t.user ∧ s.dom = t.dom ∧ s.userV = t.userV ∧ s.domV = t.domV
    ∧ s.data = t.data ∧ s.ch = t.ch ∧ s.ovfPw = t.ovfPw ∧ s.ovfUser = t.ovfUser
    ∧ s.ovfDom = t.ovfDom ∧ s.ovfData = t.ovfData ∧ s.ovfCh = t.ovfCh ∧ s.offset = t.offset

/-- The elements of R20 that a command's completion writes (R21, R93, R268). -/
abbrev State.sameResult (s t : State) : Prop :=
  s.out = t.out ∧ s.outlen = t.outlen ∧ s.err = t.err ∧ s.state = t.state

/-- Both outcomes are next states with the same result registers. -/
def resultsAgree (x y : Host.Outcome State Fault Refusal) : Prop :=
  ∃ s t, x = .next s ∧ y = .next t ∧ s.sameResult t

/-! ### The command tables read by condition (R95, R96, R263) -/

/-- R95: the instruction is one of the eleven commands. -/
def isCommand (i : Instr) : Bool := (commandWord i).isSome

/-- R96, column "units needed", together with R262's list: a unit the command needs is absent. -/
def unitMissing (p : Config.Params) (i : Instr) : Bool :=
  (!p.hasDes && [.desenc, .p16, .p24pw, .p24p21, .responseLanman, .responseNtlm1].contains i)
    || (!p.hasMd4 && [.md4, .responseNtlm1, .responseNtlm2, .responseMd4Raw].contains i)
    || (!p.hasHmacMd5 && [Instr.responseNtlm2].contains i)

/-- R96, column "reads": the commands that read each buffer. -/
def readsPw : List Instr :=
  [.p16, .p24pw, .responseLanman, .responseNtlm1, .responseNtlm2, .responseMd4Raw]

/-- R96, column "reads". -/
def readsData : List Instr := [.keyexp, .desenc, .p24p21, .md4]

/-- R96, column "reads", and R263 row P3. -/
def readsCh : List Instr :=
  [.desenc, .p16, .p24pw, .p24p21, .responseLanman, .responseNtlm1, .responseNtlm2, .responseMd4Raw]

/-- R263, rows P2 to P6: some operand condition of the command fails. -/
def operandViolation (s : State) (i : Instr) : Bool :=
  (s.ovfPw && readsPw.contains i) || (s.ovfData && readsData.contains i)
    || (s.ovfCh && readsCh.contains i) || ((s.ovfUser || s.ovfDom) && i == .responseNtlm2)
    || (s.ch.length != 8 && readsCh.contains i)
    || ((!s.userV || !s.domV) && i == .responseNtlm2)
    || (s.data.length != 21 && i == .p24p21)
    || (decide (s.offset.toNat + 7 > s.data.length) && i == .keyexp)

/-! ### The machine with start and completion merged (R69) -/

/-- R93: the completion of the command in `CMD`, taken at once. -/
def completeNow (s : State) : Host.Outcome State Fault Refusal :=
  match decodeCommand s.cmd with
  | .ok i => exec i s
  | .error _ => s.completeIllegal

/-- One access of the host, a command it starts included: "a model may merge the start of a command and its
completion into one atomic host-visible step" (R69). -/
def mergedAccess (a : BusAccess) (s : State) : Host.Outcome State Fault Refusal :=
  match decodeAccess a with
  | .ok i =>
    match exec i s with
    | .next t => if t.state = .busy then completeNow t else .next t
    | .fault r => .fault r
    | .refused r => .refused r
  | .error e => .refused (refusalOf e)

/-- A host script on the merged machine. -/
def mergedRun : List BusAccess → State → Host.Outcome State Fault Refusal
  | [], s => .next s
  | a :: rest, s =>
    match mergedAccess a s with
    | .next t => mergedRun rest t
    | .fault r => .fault r
    | .refused r => .refused r

end Sys2Proof.Machine
end

