-- ==== Sys2Proof/Certificates/Slice0/Obligations.lean ====
section
/-! DEFINITION. Certificates/Slice0/Obligations.lean: the statements for the provers, one `def` each; what
each rests on is in OBLIGATIONS.json. The fields `pending`, `replies`, `resetIn`, `delay` and `draw` are the
model's own (assumptions 3 to 6); `params` are the instance's parameters (assumption 7). -/

open Sys2Proof Sys2Proof.Machine

/-! ### Encoding -/

/-- R95, R61: the eleven command words and an access of each direction, written out, decode to the
instructions they stand for. A sanity statement about fixed words. -/
def Obligations.WrittenWordsDecode : Prop :=
  decode (.cmdw 0x00000001) = .ok .keyexp ∧ decode (.cmdw 0x00000002) = .ok .desenc
    ∧ decode (.cmdw 0x00000003) = .ok .p16 ∧ decode (.cmdw 0x00000004) = .ok .p24pw
    ∧ decode (.cmdw 0x00000005) = .ok .p24p21 ∧ decode (.cmdw 0x00000006) = .ok .md4
    ∧ decode (.cmdw 0x00000017) = .ok .responseLanman ∧ decode (.cmdw 0x00000027) = .ok .responseNtlm1
    ∧ decode (.cmdw 0x00000037) = .ok .responseNtlm2 ∧ decode (.cmdw 0x00000047) = .ok .responseMd4Raw
    ∧ decode (.cmdw 0x00000008) = .ok .avail
    ∧ decode (.bus ⟨.write, 4, 0x10, 0xABCD1234⟩) = .ok (.wrPwPush 0xABCD1234)
    ∧ decode (.bus ⟨.read, 4, 0x54, 0⟩) = .ok .rdOut5
    ∧ decode (.bus ⟨.write, 4, 0x7C, 1⟩) = .ok (.wrNoEffect 0x7C 1)
    ∧ decode (.bus ⟨.read, 4, 0x10, 0⟩) = .ok (.rdReadsZero 0x10)

/-- R90, R95, R61, R64, R99: decoding an encoded well-formed instruction gives it back, whatever its
operands: no bit of an encoding is dropped. -/
def Obligations.DecodeAfterEncode : Prop :=
  ∀ i : Instr, i.wellFormed = true → decode (encode i) = .ok i

/-- R95, R61, R64: what the decoder accepts is a well-formed instruction whose encoding is what was
decoded (for a read, whose word has no meaning, with that word zero): no two encodings of one kind stand
for one instruction. -/
def Obligations.EncodeAfterDecode : Prop :=
  ∀ (e : Encoded) (i : Instr), decode e = .ok i →
    (∀ a, e = .bus a → a.dir = .read → a.value = 0) → i.wellFormed = true ∧ encode i = e

/-- R95, R97: the decoder refuses exactly the words of the four cases of R97, read by their fields. -/
def Obligations.IllegalWordsByField : Prop :=
  ∀ w : Word, (∃ e, decodeCommand w = .error e) ↔
    (w.extractLsb' 7 25 ≠ 0
      ∨ (w.extractLsb' 0 4).toNat ∈ [0, 9, 10, 11, 12, 13, 14, 15]
      ∨ ((w.extractLsb' 0 4).toNat = 7 ∧ (w.extractLsb' 4 3).toNat ∈ [0, 5, 6, 7])
      ∨ ((w.extractLsb' 0 4).toNat ∈ [1, 2, 3, 4, 5, 6, 8] ∧ w.extractLsb' 4 3 ≠ 0))

/-- R97: every word but the eleven is illegal, which are the words of the rule's four cases; an illegal word
is accepted by `WR CMD` like any other, and its completion step is the error entry with
`PreconditionViolation`, everything else unchanged: never another command, never a no-operation. -/
def Obligations.IllegalWordCompletesWithPreconditionViolation : Prop :=
  ∀ (s : State) (w : Word),
    (w ∉ ([0x00000001, 0x00000002, 0x00000003, 0x00000004, 0x00000005, 0x00000006, 0x00000017,
          0x00000027, 0x00000037, 0x00000047, 0x00000008] : List Word) ↔
      (w.extractLsb' 7 25 ≠ 0
        ∨ (w.extractLsb' 0 4).toNat ∈ [0, 9, 10, 11, 12, 13, 14, 15]
        ∨ ((w.extractLsb' 0 4).toNat = 7 ∧ (w.extractLsb' 4 3).toNat ∈ [0, 5, 6, 7])
        ∨ ((w.extractLsb' 0 4).toNat ∈ [1, 2, 3, 4, 5, 6, 8] ∧ w.extractLsb' 4 3 ≠ 0)))
    ∧ (w ∉ ([0x00000001, 0x00000002, 0x00000003, 0x00000004, 0x00000005, 0x00000006, 0x00000017,
          0x00000027, 0x00000037, 0x00000047, 0x00000008] : List Word) →
      (s.state ≠ .busy → ∃ d, exec (.wrCmd w) s = .next
        { s with cmd := w, out := zeros 24, outlen := 0, err := .noError, state := .busy,
                 delay := d, draw := s.draw + 1 })
      ∧ (s.state = .busy → s.delay = 0 → s.resetIn.head? ≠ some true → s.cmd = w →
        step s = .next
          { s with out := zeros 24, outlen := 0, err := .kind .preconditionViolation, state := .error,
                   resetIn := s.resetIn.tail }))

/-! ### Starting a command -/

/-- R92, R230: an accepted write of `CMD` starts a command, for every word, and while `BUSY` it is held.
How long the command takes (`delay`) is left open, and nothing here says what it is. -/
def Obligations.WrCmdStartsCommand : Prop :=
  ∀ (s : State) (w : Word),
    (s.state ≠ .busy → ∃ d, exec (.wrCmd w) s = .next
      { s with cmd := w, out := zeros 24, outlen := 0, err := .noError, state := .busy,
               delay := d, draw := s.draw + 1 })
    ∧ (s.state = .busy →
      exec (.wrCmd w) s = .next { s with pending := encodeBus (.wrCmd w) :: s.pending })

/-! ### The eleven commands: result or error

Each is the whole next state of the completion step, for every case of the command's rule: the result
registers, and everything else as it was. -/

/-- R122: `KEYEXP`; the source is `DATA` from `OFFSET` on, without wrap-around. -/
def Obligations.KeyexpResultOrError : Prop :=
  ∀ s : State, s.state = .busy →
    (s.ovfData = false → s.offset.toNat + 7 ≤ s.data.length →
      exec .keyexp s = .next
        { s with out := kex (slice 7 s.data s.offset.toNat) ++ zeros 16,
                 outlen := 8, err := .noError, state := .done, delay := 0 })
    ∧ (s.ovfData = true ∨ s.data.length < s.offset.toNat + 7 →
      exec .keyexp s = .next
        { s with out := zeros 24, outlen := 0, state := .error, delay := 0,
                 err := .kind .preconditionViolation })

/-- R145: `DESENC`; the key is `DATA`, the block `CH`. -/
def Obligations.DesencResultOrError : Prop :=
  ∀ s : State, s.state = .busy →
    (∀ key block : Bytes 8, s.params.hasDes = true → s.ovfData = false → s.ovfCh = false →
      s.data = key.toList → s.ch = block.toList →
      exec .desenc s = .next
        { s with out := desEnc key block ++ zeros 16,
                 outlen := 8, err := .noError, state := .done, delay := 0 })
    ∧ (s.params.hasDes = false →
      exec .desenc s = .next
        { s with out := zeros 24, outlen := 0, state := .error, delay := 0,
                 err := .kind .algorithmUnavailable })
    ∧ (s.params.hasDes = true → s.ovfData = true ∨ s.ovfCh = true ∨ s.ch.length ≠ 8 →
      exec .desenc s = .next
        { s with out := zeros 24, outlen := 0, state := .error, delay := 0,
                 err := .kind .preconditionViolation })
    ∧ (s.params.hasDes = true → s.ovfData = false → s.ovfCh = false → s.ch.length = 8 →
      s.data.length ≠ 8 →
      exec .desenc s = .next
        { s with out := zeros 24, outlen := 0, state := .error, delay := 0,
                 err := .kind .invalidKey })

/-- R165, R161: `P16`; the seed is `CH`. -/
def Obligations.P16ResultOrError : Prop :=
  ∀ s : State, s.state = .busy →
    (∀ seed : Bytes 8, s.params.hasDes = true → s.ovfPw = false → s.ovfCh = false → s.ch = seed.toList →
      exec .p16 s = .next
        { s with out := desEnc (kex (slice 7 (p14 s.pw).toList 0)) seed
                   ++ desEnc (kex (slice 7 (p14 s.pw).toList 7)) seed ++ zeros 8,
                 outlen := 16, err := .noError, state := .done, delay := 0 })
    ∧ (s.params.hasDes = false →
      exec .p16 s = .next
        { s with out := zeros 24, outlen := 0, state := .error, delay := 0,
                 err := .kind .algorithmUnavailable })
    ∧ (s.params.hasDes = true → s.ovfPw = true ∨ s.ovfCh = true ∨ s.ch.length ≠ 8 →
      exec .p16 s = .next
        { s with out := zeros 24, outlen := 0, state := .error, delay := 0,
                 err := .kind .preconditionViolation })

/-- R166, R164: `P24PW`; the challenge is `CH`, the seed of its P16 is built in. -/
def Obligations.P24pwResultOrError : Prop :=
  ∀ s : State, s.state = .busy →
    (∀ challenge : Bytes 8, s.params.hasDes = true → s.ovfPw = false → s.ovfCh = false →
      s.ch = challenge.toList →
      exec .p24pw s = .next
        { s with out := p24 (p16 s.pw #v[0x4B, 0x47, 0x53, 0x21, 0x40, 0x23, 0x24, 0x25] ++ zeros 5) challenge,
                 outlen := 24, err := .noError, state := .done, delay := 0 })
    ∧ (s.params.hasDes = false →
      exec .p24pw s = .next
        { s with out := zeros 24, outlen := 0, state := .error, delay := 0,
                 err := .kind .algorithmUnavailable })
    ∧ (s.params.hasDes = true → s.ovfPw = true ∨ s.ovfCh = true ∨ s.ch.length ≠ 8 →
      exec .p24pw s = .next
        { s with out := zeros 24, outlen := 0, state := .error, delay := 0,
                 err := .kind .preconditionViolation })

/-- R167, R163: `P24P21`; the P21 is `DATA` as it stands. -/
def Obligations.P24p21ResultOrError : Prop :=
  ∀ s : State, s.state = .busy →
    (∀ (p21 : Bytes 21) (challenge : Bytes 8), s.params.hasDes = true → s.ovfData = false →
      s.ovfCh = false → s.data = p21.toList → s.ch = challenge.toList →
      exec .p24p21 s = .next
        { s with out := desEnc (kex (slice 7 p21.toList 0)) challenge
                   ++ desEnc (kex (slice 7 p21.toList 7)) challenge
                   ++ desEnc (kex (slice 7 p21.toList 14)) challenge,
                 outlen := 24, err := .noError, state := .done, delay := 0 })
    ∧ (s.params.hasDes = false →
      exec .p24p21 s = .next
        { s with out := zeros 24, outlen := 0, state := .error, delay := 0,
                 err := .kind .algorithmUnavailable })
    ∧ (s.params.hasDes = true → s.ovfData = true ∨ s.ovfCh = true ∨ s.data.length ≠ 21 ∨ s.ch.length ≠ 8 →
      exec .p24p21 s = .next
        { s with out := zeros 24, outlen := 0, state := .error, delay := 0,
                 err := .kind .preconditionViolation })

/-- R199: `MD4`. -/
def Obligations.Md4ResultOrError : Prop :=
  ∀ s : State, s.state = .busy →
    (s.params.hasMd4 = true → s.ovfData = false →
      exec .md4 s = .next
        { s with out := md4 s.data ++ zeros 8,
                 outlen := 16, err := .noError, state := .done, delay := 0 })
    ∧ (s.params.hasMd4 = false →
      exec .md4 s = .next
        { s with out := zeros 24, outlen := 0, state := .error, delay := 0,
                 err := .kind .algorithmUnavailable })
    ∧ (s.params.hasMd4 = true → s.ovfData = true →
      exec .md4 s = .next
        { s with out := zeros 24, outlen := 0, state := .error, delay := 0,
                 err := .kind .preconditionViolation })

/-- R176: `RESPONSE.LANMAN`. -/
def Obligations.LanmanResultOrError : Prop :=
  ∀ s : State, s.state = .busy →
    (∀ challenge : Bytes 8, s.params.hasDes = true → s.ovfPw = false → s.ovfCh = false →
      s.ch = challenge.toList →
      exec .responseLanman s = .next
        { s with out := p24 (p16 s.pw #v[0x4B, 0x47, 0x53, 0x21, 0x40, 0x23, 0x24, 0x25] ++ zeros 5) challenge,
                 outlen := 24, err := .noError, state := .done, delay := 0 })
    ∧ (s.params.hasDes = false →
      exec .responseLanman s = .next
        { s with out := zeros 24, outlen := 0, state := .error, delay := 0,
                 err := .kind .algorithmUnavailable })
    ∧ (s.params.hasDes = true → s.ovfPw = true ∨ s.ovfCh = true ∨ s.ch.length ≠ 8 →
      exec .responseLanman s = .next
        { s with out := zeros 24, outlen := 0, state := .error, delay := 0,
                 err := .kind .preconditionViolation })

/-- R177: `RESPONSE.NTLM1`; the password as given, not upper-cased. -/
def Obligations.Ntlm1ResultOrError : Prop :=
  ∀ s : State, s.state = .busy →
    (∀ challenge : Bytes 8, s.params.hasMd4 = true → s.params.hasDes = true → s.ovfPw = false →
      s.ovfCh = false → s.ch = challenge.toList →
      exec .responseNtlm1 s = .next
        { s with out := p24 (md4 (utf16le s.pw) ++ zeros 5) challenge,
                 outlen := 24, err := .noError, state := .done, delay := 0 })
    ∧ (s.params.hasMd4 = false ∨ s.params.hasDes = false →
      exec .responseNtlm1 s = .next
        { s with out := zeros 24, outlen := 0, state := .error, delay := 0,
                 err := .kind .algorithmUnavailable })
    ∧ (s.params.hasMd4 = true → s.params.hasDes = true →
      s.ovfPw = true ∨ s.ovfCh = true ∨ s.ch.length ≠ 8 →
      exec .responseNtlm1 s = .next
        { s with out := zeros 24, outlen := 0, state := .error, delay := 0,
                 err := .kind .preconditionViolation })

/-- R178: `RESPONSE.NTLM2`; the challenge is checked for its length alone. -/
def Obligations.Ntlm2ResultOrError : Prop :=
  ∀ s : State, s.state = .busy →
    (s.params.hasMd4 = true → s.params.hasHmacMd5 = true → s.ovfPw = false → s.ovfCh = false →
      s.ch.length = 8 → s.userV = true → s.domV = true → s.ovfUser = false → s.ovfDom = false →
      exec .responseNtlm2 s = .next
        { s with out := hmacMd5 (md4 (utf16le s.pw)).toList (utf16le (upcase (s.user ++ s.dom))) ++ zeros 8,
                 outlen := 16, err := .noError, state := .done, delay := 0 })
    ∧ (s.params.hasMd4 = false ∨ s.params.hasHmacMd5 = false →
      exec .responseNtlm2 s = .next
        { s with out := zeros 24, outlen := 0, state := .error, delay := 0,
                 err := .kind .algorithmUnavailable })
    ∧ (s.params.hasMd4 = true → s.params.hasHmacMd5 = true →
      s.ovfPw = true ∨ s.ovfCh = true ∨ s.ch.length ≠ 8 ∨ s.userV = false ∨ s.domV = false
        ∨ s.ovfUser = true ∨ s.ovfDom = true →
      exec .responseNtlm2 s = .next
        { s with out := zeros 24, outlen := 0, state := .error, delay := 0,
                 err := .kind .preconditionViolation })

/-- R179: `RESPONSE.MD4_RAW`; the challenge is checked for its length alone. -/
def Obligations.Md4RawResultOrError : Prop :=
  ∀ s : State, s.state = .busy →
    (s.params.hasMd4 = true → s.ovfPw = false → s.ovfCh = false → s.ch.length = 8 →
      exec .responseMd4Raw s = .next
        { s with out := md4 (utf16le s.pw) ++ zeros 8,
                 outlen := 16, err := .noError, state := .done, delay := 0 })
    ∧ (s.params.hasMd4 = false →
      exec .responseMd4Raw s = .next
        { s with out := zeros 24, outlen := 0, state := .error, delay := 0,
                 err := .kind .algorithmUnavailable })
    ∧ (s.params.hasMd4 = true → s.ovfPw = true ∨ s.ovfCh = true ∨ s.ch.length ≠ 8 →
      exec .responseMd4Raw s = .next
        { s with out := zeros 24, outlen := 0, state := .error, delay := 0,
                 err := .kind .preconditionViolation })

/-- R182: `AVAIL` delivers the conjunction of the three units, whatever the operands, and never fails. -/
def Obligations.AvailDelivers : Prop :=
  ∀ s : State, s.state = .busy →
    exec .avail s = .next
      { s with out := (#v[if s.params.hasDes = true ∧ s.params.hasMd4 = true ∧ s.params.hasHmacMd5 = true
                         then 0x01 else 0x00] : Bytes 1) ++ zeros 23,
               outlen := 1, err := .noError, state := .done, delay := 0 }

/-! ### The eleven commands: failures, frame, and what each reads -/

/-- R262, R263 (rows P2 to P6), R264, R266: which of the three errors a command ends with, and when it ends
with none. -/
def Obligations.CommandErrorsExactly : Prop :=
  ∀ (i : Instr) (s : State), isCommand i = true → s.state = .busy →
    ∃ t, exec i s = .next t
      ∧ (t.err = .kind .algorithmUnavailable ↔ unitMissing s.params i = true)
      ∧ (t.err = .kind .preconditionViolation ↔
          unitMissing s.params i = false ∧ operandViolation s i = true)
      ∧ (t.err = .kind .invalidKey ↔
          i = .desenc ∧ unitMissing s.params i = false ∧ operandViolation s i = false
            ∧ s.data.length ≠ 8)
      ∧ (t.err = .noError ↔ t.state = .done) ∧ (t.state = .done ∨ t.state = .error)

/-- R268: a command that ends in `ERROR` has written `OUT`, `OUTLEN`, `ERR` and `STATE` and nothing else.
(`delay`, the model's own, is 0 once no command runs.) -/
def Obligations.ErrorEntryWritesOnlyTheRecord : Prop :=
  ∀ (i : Instr) (s t : State), isCommand i = true → s.state = .busy → exec i s = .next t →
    t.state = .error →
    ∃ e, t = { s with out := zeros 24, outlen := 0, err := .kind e, state := .error, delay := 0 }

/-- R21, R93: no command changes an operand, `CMD` or `IE`, nor anything of the host's. -/
def Obligations.CommandsKeepOperands : Prop :=
  ∀ (i : Instr) (s t : State), isCommand i = true → exec i s = .next t →
    s.sameOperands t ∧ t.cmd = s.cmd ∧ t.ie = s.ie ∧ t.params = s.params
      ∧ t.pending = s.pending ∧ t.replies = s.replies ∧ t.resetIn = s.resetIn ∧ t.draw = s.draw

/-- R96, R184: a command's outcome depends on the elements of its row of the table "reads" and on the
parameters, and on nothing else; of `CH`, `NTLM2` and `MD4_RAW` read the length alone. -/
def Obligations.CommandsReadOnlyTheirOperands : Prop :=
  ∀ s t : State, s.state = .busy → t.state = .busy → s.params = t.params →
    (s.data = t.data ∧ s.ovfData = t.ovfData ∧ s.offset = t.offset →
      resultsAgree (exec .keyexp s) (exec .keyexp t))
    ∧ (s.data = t.data ∧ s.ovfData = t.ovfData ∧ s.ch = t.ch ∧ s.ovfCh = t.ovfCh →
      ∀ i ∈ [Instr.desenc, .p24p21], resultsAgree (exec i s) (exec i t))
    ∧ (s.pw = t.pw ∧ s.ovfPw = t.ovfPw ∧ s.ch = t.ch ∧ s.ovfCh = t.ovfCh →
      ∀ i ∈ [Instr.p16, .p24pw, .responseLanman, .responseNtlm1], resultsAgree (exec i s) (exec i t))
    ∧ (s.data = t.data ∧ s.ovfData = t.ovfData → resultsAgree (exec .md4 s) (exec .md4 t))
    ∧ (s.pw = t.pw ∧ s.ovfPw = t.ovfPw ∧ s.ch.length = t.ch.length ∧ s.ovfCh = t.ovfCh →
      resultsAgree (exec .responseMd4Raw s) (exec .responseMd4Raw t))
    ∧ (s.pw = t.pw ∧ s.ovfPw = t.ovfPw ∧ s.ch.length = t.ch.length ∧ s.ovfCh = t.ovfCh
        ∧ s.user = t.user ∧ s.userV = t.userV ∧ s.ovfUser = t.ovfUser
        ∧ s.dom = t.dom ∧ s.domV = t.domV ∧ s.ovfDom = t.ovfDom →
      resultsAgree (exec .responseNtlm2 s) (exec .responseNtlm2 t))
    ∧ resultsAgree (exec .avail s) (exec .avail t)

/-- R178, R181 (b): `NTLM2` depends on username and domain only through `UPCASE(USER ++ DOM)`. -/
def Obligations.Ntlm2SeesOnlyUpcasedIdentity : Prop :=
  ∀ (s : State) (user dom : Text), s.state = .busy → upcase (user ++ dom) = upcase (s.user ++ s.dom) →
    resultsAgree (exec .responseNtlm2 s) (exec .responseNtlm2 { s with user := user, dom := dom })

/-! ### The algorithms -/

/-- R121 (from R120): `KEX` bit by bit; it is injective, and its image is the values whose every byte is
even. Bit `t` from the top of output byte `j` is bit `7j + t` of the 56-bit source stream. -/
def Obligations.KexSpreadsSevenBitGroups : Prop :=
  (∀ (s : Bytes 7) (j : Fin 8) (t : Fin 7),
    (kex s)[j].getLsbD (7 - t.val)
      = (s.toList.getD ((7 * j.val + t.val) / 8) 0).getLsbD (7 - (7 * j.val + t.val) % 8))
    ∧ (∀ (s : Bytes 7) (j : Fin 8), (kex s)[j].getLsbD 0 = false)
    ∧ (∀ s s' : Bytes 7, kex s = kex s' → s = s')
    ∧ (∀ k : Bytes 8, (∃ s, kex s = k) ↔ ∀ j : Fin 8, k[j].getLsbD 0 = false)

/-- R139: the eight parity bits of a key are not read. -/
def Obligations.DesIgnoresParityBits : Prop :=
  ∀ key key' block : Bytes 8, (∀ j : Fin 8, key[j] >>> 1 = key'[j] >>> 1) →
    desEnc key block = desEnc key' block

/-- R134, "the inverse of `IP`": the two permutations undo each other. -/
def Obligations.FinalPermutationInvertsInitial : Prop :=
  ∀ x : BitVec 64, select 64 fpTable (select 64 ipTable x) = x
    ∧ select 64 ipTable (select 64 fpTable x) = x

/-- R160: `P14`, cut at 14 bytes or padded with zeros to 14. -/
def Obligations.P14CutsOrPads : Prop :=
  ∀ pw : Text,
    (14 ≤ (upcase pw).length → (p14 pw).toList = ((upcase pw).map narrow).take 14)
    ∧ ((upcase pw).length < 14 →
      (p14 pw).toList = (upcase pw).map narrow ++ List.replicate (14 - (upcase pw).length) 0)

/-- R168: `P16` depends on the password through the first 14 bytes of its encoded upper-cased form alone,
and two passwords that differ in the case of ASCII letters only give the same `P16`, whatever other units they
hold (where they hold one of 0x0080 or above, as the model's reading of `UPCASE`, assumption 16). -/
def Obligations.LmHashSeesFourteenUpperCasedBytes : Prop :=
  (∀ (pw pw' : Text) (seed : Bytes 8),
    ((upcase pw).map narrow).take 14 = ((upcase pw').map narrow).take 14 → p16 pw seed = p16 pw' seed)
  ∧ (∀ (pw pw' : Text) (seed : Bytes 8),
    pw.length = pw'.length →
    (∀ i, pw.getD i 0 = pw'.getD i 0
      ∨ (0x0041 ≤ pw.getD i 0 ∧ pw.getD i 0 ≤ 0x005A ∧ pw'.getD i 0 = pw.getD i 0 + 0x0020)
      ∨ (0x0061 ≤ pw.getD i 0 ∧ pw.getD i 0 ≤ 0x007A ∧ pw'.getD i 0 = pw.getD i 0 - 0x0020)) →
    p16 pw seed = p16 pw' seed)

/-- R168: a password of at most 7 encoded bytes gives `AAD3B435B51404EE` as the second half of its LM base
hash. -/
def Obligations.ShortPasswordShowsInLmHash : Prop :=
  ∀ pw : Text, (upcase pw).length ≤ 7 →
    (p16 pw #v[0x4B, 0x47, 0x53, 0x21, 0x40, 0x23, 0x24, 0x25]).toList.drop 8
      = [0xAA, 0xD3, 0xB4, 0x35, 0xB5, 0x14, 0x04, 0xEE]

/-- R173: `UTF16LE`, byte by byte. -/
def Obligations.Utf16leLowByteFirst : Prop :=
  ∀ t : Text, (utf16le t).length = 2 * t.length
    ∧ ∀ i, i < t.length →
      (utf16le t).getD (2 * i) 0 = (t.getD i 0 &&& 0x00FF).setWidth 8
        ∧ (utf16le t).getD (2 * i + 1) 0 = (t.getD i 0 >>> 8).setWidth 8

/-- R171, R172: the laws of `UPCASE` and `NARROW`; nothing is said of what the spec leaves open. -/
def Obligations.EncoderLawsOnAscii : Prop :=
  (∀ t : Text, (∀ c ∈ t, c < 0x0080) →
    (upcase t).length = t.length
    ∧ ∀ i, i < t.length → (upcase t).getD i 0 =
      if 0x0061 ≤ t.getD i 0 ∧ t.getD i 0 ≤ 0x007A then t.getD i 0 - 0x0020 else t.getD i 0)
  ∧ (∀ c : CodeUnit, c < 0x0080 → narrow c = c.setWidth 8)

/-- R191: `PAD`, with `z` the least number of zero bytes, the bit length modulo 2^64 in eight bytes, and the
length of the whole. -/
def Obligations.PaddingShape : Prop :=
  ∀ m : List Byte, ∃ z len8,
    pad m = m ++ [0x80] ++ List.replicate z 0 ++ len8
    ∧ (m.length + 1 + z) % 64 = 56 ∧ (∀ y, (m.length + 1 + y) % 64 = 56 → z ≤ y)
    ∧ len8.length = 8
    ∧ (∀ j, j < 8 → (len8.getD j 0).toNat = (8 * m.length) % 2 ^ 64 / 256 ^ j % 256)
    ∧ (pad m).length = 64 * ((m.length + 8) / 64 + 1)

/-- R218: `HMAC_MD5` for a key of at most 64 bytes. -/
def Obligations.HmacConstruction : Prop :=
  ∀ key msg : List Byte, key.length ≤ 64 →
    ∃ k64 : List Byte, k64 = key ++ List.replicate (64 - key.length) 0 ∧ k64.length = 64
      ∧ hmacMd5 key msg =
        md5 ((k64.map fun b : Byte => b ^^^ 0x5C)
          ++ (md5 ((k64.map fun b : Byte => b ^^^ 0x36) ++ msg)).toList)

/-! ### The host's accesses -/

/-- R231: the three text pushes, accepted. -/
def Obligations.TextPushesAppendOrOverflow : Prop :=
  ∀ (s : State) (v : Word), s.state ≠ .busy →
    exec (.wrPwPush v) s = .next (if s.pw.length < s.params.textMax
      then { s with pw := s.pw ++ [v.setWidth 16] } else { s with ovfPw := true })
    ∧ exec (.wrUserPush v) s = .next (if s.user.length < s.params.textMax
      then { s with user := s.user ++ [v.setWidth 16], userV := true }
      else { s with ovfUser := true, userV := true })
    ∧ exec (.wrDomPush v) s = .next (if s.dom.length < s.params.textMax
      then { s with dom := s.dom ++ [v.setWidth 16], domV := true }
      else { s with ovfDom := true, domV := true })

/-- R232, R233: the two byte pushes, accepted. -/
def Obligations.BytePushesAppendOrOverflow : Prop :=
  ∀ (s : State) (v : Word), s.state ≠ .busy →
    exec (.wrDataPush v) s = .next (if s.data.length < s.params.dataMax
      then { s with data := s.data ++ [v.setWidth 8] } else { s with ovfData := true })
    ∧ exec (.wrChPush v) s = .next (if s.ch.length < s.params.chMax
      then { s with ch := s.ch ++ [v.setWidth 8] } else { s with ovfCh := true })

/-- R236, R237, R238, R244: an accepted write of `CTRL`, field by field. -/
def Obligations.CtrlAppliesItsBits : Prop :=
  ∀ (s : State) (m : Word), s.state ≠ .busy →
    exec (.wrCtrl m) s = .next
      { s with
        pw := if m.getLsbD 0 then [] else s.pw
        ovfPw := s.ovfPw && !m.getLsbD 0
        user := if m.getLsbD 1 then [] else s.user
        ovfUser := s.ovfUser && !m.getLsbD 1
        userV := (s.userV && !m.getLsbD 1) || m.getLsbD 6
        dom := if m.getLsbD 2 then [] else s.dom
        ovfDom := s.ovfDom && !m.getLsbD 2
        domV := (s.domV && !m.getLsbD 2) || m.getLsbD 7
        data := if m.getLsbD 3 then [] else s.data
        ovfData := s.ovfData && !m.getLsbD 3
        ch := if m.getLsbD 4 then [] else s.ch
        ovfCh := s.ovfCh && !m.getLsbD 4
        state := if m.getLsbD 5 ∧ (s.state = .done ∨ s.state = .error) then .idle else s.state
        err := if m.getLsbD 5 ∧ (s.state = .done ∨ s.state = .error) then .noError else s.err
        out := if m.getLsbD 5 ∧ (s.state = .done ∨ s.state = .error) then zeros 24 else s.out
        outlen := if m.getLsbD 5 ∧ (s.state = .done ∨ s.state = .error) then 0 else s.outlen }

/-- R239, R240: `IEN` and `OFFSET`, written and read; the line `irq` follows `IE` at once. -/
def Obligations.IenAndOffsetStoreAndReturn : Prop :=
  ∀ (s : State) (v : Word), s.state ≠ .busy →
    exec (.wrIen v) s = .next { s with ie := v.getLsbD 0 }
    ∧ State.irq { s with ie := v.getLsbD 0 } = (v.getLsbD 0 && (s.state == .done || s.state == .error))
    ∧ exec .rdIen s = .next { s with replies := s.replies ++ [if s.ie then 1 else 0] }
    ∧ exec (.wrOffset v) s = .next { s with offset := v.setWidth 16 }
    ∧ exec .rdOffset s = .next { s with replies := s.replies ++ [s.offset.setWidth 32] }

/-- R241, R34, R23, R24, R36: a read of `STATUS` is accepted in every `STATE`, returns the word of R34 and
changes nothing else. -/
def Obligations.StatusReadShowsTheState : Prop :=
  ∀ s : State, ∃ w : Word, exec .rdStatus s = .next { s with replies := s.replies ++ [w] }
    ∧ (w.extractLsb' 0 2).toNat = (match s.state with | .idle => 0 | .busy => 1 | .done => 2 | .error => 3)
    ∧ (w.extractLsb' 2 2).toNat = (match s.err with
        | .noError => 0
        | .kind .algorithmUnavailable => 1
        | .kind .invalidKey => 2
        | .kind .preconditionViolation => 3)
    ∧ w.extractLsb' 4 5 = s.outlen
    ∧ w.getLsbD 9 = s.userV ∧ w.getLsbD 10 = s.domV
    ∧ w.getLsbD 11 = s.ovfPw ∧ w.getLsbD 12 = s.ovfUser ∧ w.getLsbD 13 = s.ovfDom
    ∧ w.getLsbD 14 = s.ovfData ∧ w.getLsbD 15 = s.ovfCh
    ∧ w.getLsbD 16 = (s.ie && (s.state == .done || s.state == .error))
    ∧ w.extractLsb' 17 15 = 0

/-- R242, R234: the length registers and `CMD`, read. A length is returned modulo 2^32, which is the model's
choice (assumption 14, DEDUCED) and the length itself below 2^32. -/
def Obligations.LengthAndCmdReads : Prop :=
  ∀ s : State, s.state ≠ .busy →
    exec .rdPwlen s = .next { s with replies := s.replies ++ [BitVec.ofNat 32 s.pw.length] }
    ∧ exec .rdUserlen s = .next { s with replies := s.replies ++ [BitVec.ofNat 32 s.user.length] }
    ∧ exec .rdDomlen s = .next { s with replies := s.replies ++ [BitVec.ofNat 32 s.dom.length] }
    ∧ exec .rdDatalen s = .next { s with replies := s.replies ++ [BitVec.ofNat 32 s.data.length] }
    ∧ exec .rdChlen s = .next { s with replies := s.replies ++ [BitVec.ofNat 32 s.ch.length] }
    ∧ exec .rdCmd s = .next { s with replies := s.replies ++ [s.cmd] }

/-- R243, R65: `OUT0` to `OUT5`, read: four result bytes, the lowest-numbered in the least significant
lane. -/
def Obligations.OutReadsPackLittleEndian : Prop :=
  ∀ s : State, s.state ≠ .busy →
    ∀ (k : Fin 6) (i : Instr),
      i = (match k with
        | 0 => .rdOut0 | 1 => .rdOut1 | 2 => .rdOut2 | 3 => .rdOut3 | 4 => .rdOut4 | 5 => .rdOut5) →
      exec i s = .next { s with replies := s.replies ++
        [(s.out.toList.getD (4 * k.val) 0).setWidth 32
          ||| ((s.out.toList.getD (4 * k.val + 1) 0).setWidth 32 <<< 8)
          ||| ((s.out.toList.getD (4 * k.val + 2) 0).setWidth 32 <<< 16)
          ||| ((s.out.toList.getD (4 * k.val + 3) 0).setWidth 32 <<< 24)] }

/-- R64: at an offset without a register of the direction, a write has no effect and a read returns zero;
the offsets are those of the rule. -/
def Obligations.UnmappedAndOneWayOffsets : Prop :=
  (∀ off : Offset,
    off ∈ ([0x04, 0x28, 0x2C, 0x30, 0x34, 0x38, 0x40, 0x44, 0x48, 0x4C, 0x50, 0x54,
      0x3C, 0x58, 0x5C, 0x60, 0x64, 0x68, 0x6C, 0x70, 0x74, 0x78, 0x7C] : List Offset) →
    ∀ (s : State) (v : Word), s.state ≠ .busy →
      decodeAccess ⟨.write, 4, off.toNat, v⟩ = .ok (.wrNoEffect off v)
        ∧ exec (.wrNoEffect off v) s = .next s)
  ∧ (∀ off : Offset,
    off ∈ ([0x08, 0x10, 0x14, 0x18, 0x1C, 0x20,
      0x3C, 0x58, 0x5C, 0x60, 0x64, 0x68, 0x6C, 0x70, 0x74, 0x78, 0x7C] : List Offset) →
    ∀ (s : State) (v : Word), s.state ≠ .busy →
      decodeAccess ⟨.read, 4, off.toNat, v⟩ = .ok (.rdReadsZero off)
        ∧ exec (.rdReadsZero off) s = .next { s with replies := s.replies ++ [0] })

/-- R69: while `BUSY` every access but a read of `STATUS` is held, that is, it stays the host's next access
and nothing else changes; in every other state every access is accepted at once. -/
def Obligations.BusyHoldsAllButStatusReads : Prop :=
  ∀ (i : Instr) (s : State), isCommand i = false →
    (s.state = .busy → i ≠ .rdStatus →
      exec i s = .next { s with pending := encodeBus i :: s.pending })
    ∧ (s.state ≠ .busy → ∃ t, exec i s = .next t ∧ t.pending = s.pending)

/-- R67: of a word written to a push register, `OFFSET` or `IEN` the upper bits are ignored. -/
def Obligations.UpperWriteBitsAreIgnored : Prop :=
  ∀ (s : State) (v v' : Word), s.state ≠ .busy →
    (v.setWidth 16 = v'.setWidth 16 →
      exec (.wrPwPush v) s = exec (.wrPwPush v') s ∧ exec (.wrUserPush v) s = exec (.wrUserPush v') s
        ∧ exec (.wrDomPush v) s = exec (.wrDomPush v') s ∧ exec (.wrOffset v) s = exec (.wrOffset v') s)
    ∧ (v.setWidth 8 = v'.setWidth 8 →
      exec (.wrDataPush v) s = exec (.wrDataPush v') s ∧ exec (.wrChPush v) s = exec (.wrChPush v') s)
    ∧ (v.getLsbD 0 = v'.getLsbD 0 → exec (.wrIen v) s = exec (.wrIen v') s)

/-- R29, R31, R33, R64: no access of the host tells it anything of a buffer's contents but the length: from
two states that differ in contents of equal lengths alone, every access returns the same words and leads to
two such states again. Of the time a command takes (`delay`), which may depend on them, nothing is said. -/
def Obligations.BufferContentsAreUnreadable : Prop :=
  ∀ (i : Instr) (s : State) (pw user dom : Text) (data ch : List Byte),
    isCommand i = false → pw.length = s.pw.length → user.length = s.user.length →
    dom.length = s.dom.length → data.length = s.data.length → ch.length = s.ch.length →
    ∃ (s' : State) (pw' user' dom' : Text) (data' ch' : List Byte) (delay' : Nat),
      exec i s = .next s'
      ∧ exec i { s with pw := pw, user := user, dom := dom, data := data, ch := ch }
          = .next { s' with pw := pw', user := user', dom := dom', data := data', ch := ch',
                            delay := delay' }
      ∧ pw'.length = s'.pw.length ∧ user'.length = s'.user.length ∧ dom'.length = s'.dom.length
      ∧ data'.length = s'.data.length ∧ ch'.length = s'.ch.length

/-! ### Steps -/

/-- R62, R69: where no reset is applied and no completion step is due, a step runs the instruction that the
host's next access decodes to, with that access taken off the host's program and one step's time passed.
The program, the reset schedule and the time in steps are the model's choice (assumptions 5, 6 and 3). -/
def Obligations.StepRunsTheDecodedAccess : Prop :=
  ∀ (s : State) (a : BusAccess) (rest : List BusAccess) (i : Instr),
    s.resetIn.head? ≠ some true → ¬(s.state = .busy ∧ s.delay = 0) → s.pending = a :: rest →
    decodeAccess a = .ok i →
    step s = exec i { s with pending := rest, resetIn := s.resetIn.tail, delay := s.delay - 1 }

/-- R93: where no reset is applied and a command's time is over, a step runs the instruction that the word
in `CMD` decodes to. That a command's time is a field is the model's choice (assumption 3). -/
def Obligations.StepRunsTheDecodedCommand : Prop :=
  ∀ (s : State) (i : Instr),
    s.resetIn.head? ≠ some true → s.state = .busy → s.delay = 0 → decodeCommand s.cmd = .ok i →
    step s = exec i { s with resetIn := s.resetIn.tail }

/-- R306, R307: where nothing is due and the host presents nothing, a step is time passing and no more. That
there is such a step is the model's choice (assumption 13). -/
def Obligations.IdleStepChangesNothing : Prop :=
  ∀ s : State, s.resetIn.head? ≠ some true → ¬(s.state = .busy ∧ s.delay = 0) → s.pending = [] →
    step s = .next { s with resetIn := s.resetIn.tail, delay := s.delay - 1 }

/-- R290, R40: applied reset, whatever the state, sets every element of R20 to its reset value; the host's
accesses stay, but that one which `BUSY` was holding may be cancelled (left open, assumption 4); the
parameters stay. When reset is applied is the model's own field (assumption 6). -/
def Obligations.ResetSetsEveryElement : Prop :=
  ∀ s : State, s.resetIn.head? = some true →
    ∃ t, step s = .next t
      ∧ t.pw = [] ∧ t.user = [] ∧ t.dom = [] ∧ t.userV = false ∧ t.domV = false
      ∧ t.data = [] ∧ t.ch = []
      ∧ t.ovfPw = false ∧ t.ovfUser = false ∧ t.ovfDom = false ∧ t.ovfData = false ∧ t.ovfCh = false
      ∧ t.offset = 0 ∧ t.cmd = 0 ∧ t.state = .idle ∧ t.err = .noError
      ∧ t.out.toList = List.replicate 24 0 ∧ t.outlen = 0 ∧ t.ie = false
      ∧ t.params = s.params ∧ t.replies = s.replies ∧ t.resetIn = s.resetIn.tail
      ∧ (t.pending = s.pending
        ∨ (s.state = .busy ∧ ∃ a, s.pending = a :: t.pending ∧ decodeAccess a ≠ .ok .rdStatus))

/-- R40: the state after reset, and what its registers read. -/
def Obligations.ResetValues : Prop :=
  State.reset.pw = [] ∧ State.reset.user = [] ∧ State.reset.dom = [] ∧ State.reset.userV = false
    ∧ State.reset.domV = false ∧ State.reset.data = [] ∧ State.reset.ch = []
    ∧ State.reset.ovfPw = false ∧ State.reset.ovfUser = false ∧ State.reset.ovfDom = false
    ∧ State.reset.ovfData = false ∧ State.reset.ovfCh = false ∧ State.reset.offset = 0
    ∧ State.reset.cmd = 0 ∧ State.reset.state = .idle ∧ State.reset.err = .noError
    ∧ State.reset.out.toList = List.replicate 24 0 ∧ State.reset.outlen = 0 ∧ State.reset.ie = false
    ∧ State.reset.statusWord = 0
    ∧ ∀ off ∈ ([0x28, 0x2C, 0x30, 0x34, 0x38] : List Offset), State.reset.registerValue off = 0

/-- R63, R303, U10, U11: an access of another width, misaligned, or outside the window is refused where a step
runs the host's next access. That it is refused while `BUSY` too, by which name, and which of several reasons
goes first (width, alignment, window) is the model's choice (assumption 10, DEDUCED). -/
def Obligations.AccessesOutsideTheInterfaceAreRefused : Prop :=
  ∀ (s : State) (a : BusAccess) (rest : List BusAccess),
    s.resetIn.head? ≠ some true → ¬(s.state = .busy ∧ s.delay = 0) → s.pending = a :: rest →
    (a.width ≠ 4 → step s = .refused (.accessWidth a.width))
    ∧ (a.width = 4 → a.off % 4 ≠ 0 → step s = .refused (.misalignedAccess a.off))
    ∧ (a.width = 4 → a.off % 4 = 0 → 128 ≤ a.off → step s = .refused (.outsideWindow a.off))

/-- R296, R260: as long as the host keeps to the interface, every step answers a next state, and what the
host has yet to issue keeps to the interface. -/
def Obligations.DefinedScriptsNeverStop : Prop :=
  ∀ s : State, s.scriptDefined → ∃ t, step s = .next t ∧ t.scriptDefined

/-! ### Invariants and rules of the whole machine -/

/-- R38, R40: the invariant holds after reset. -/
def Obligations.InvAtReset : Prop := State.reset.Inv

/-- R38: every step keeps the invariant, from every state that has it. -/
def Obligations.InvKeptByEveryStep : Prop :=
  ∀ s t : State, s.Inv → step s = .next t → t.Inv

/-- R23: the transitions of `STATE` are exactly these, and what each takes. -/
def Obligations.StateTransitionsExactly : Prop :=
  ∀ s t : State, step s = .next t →
    t.state = s.state
    ∨ (s.resetIn.head? = some true ∧ t.state = .idle)
    ∨ (s.state ≠ .busy ∧ t.state = .busy
        ∧ ∃ a rest w, s.pending = a :: rest ∧ decodeAccess a = .ok (.wrCmd w))
    ∨ (s.state = .busy ∧ s.delay = 0 ∧ (t.state = .done ∨ t.state = .error))
    ∨ ((s.state = .done ∨ s.state = .error) ∧ t.state = .idle
        ∧ ∃ a rest m, s.pending = a :: rest ∧ decodeAccess a = .ok (.wrCtrl m) ∧ m.getLsbD 5 = true)

/-- R26: `CMD` is written by an accepted write of `CMD`, by reset, and by nothing else. -/
def Obligations.CmdWrittenOnlyByWrCmd : Prop :=
  ∀ s t : State, step s = .next t →
    t.cmd = s.cmd
    ∨ (s.resetIn.head? = some true ∧ t.cmd = 0)
    ∨ (s.state ≠ .busy ∧ ∃ a rest, s.pending = a :: rest ∧ decodeAccess a = .ok (.wrCmd t.cmd))

/-- R21, R29, R309: an operand changes only by reset or by an accepted push, write of `CTRL` or write of
`OFFSET`; while `BUSY`, by reset alone. -/
def Obligations.OperandsWrittenOnlyByTheHost : Prop :=
  ∀ s t : State, step s = .next t →
    s.sameOperands t
    ∨ s.resetIn.head? = some true
    ∨ (s.state ≠ .busy ∧ ∃ a rest v, s.pending = a :: rest
        ∧ (decodeAccess a = .ok (.wrPwPush v) ∨ decodeAccess a = .ok (.wrUserPush v)
          ∨ decodeAccess a = .ok (.wrDomPush v) ∨ decodeAccess a = .ok (.wrDataPush v)
          ∨ decodeAccess a = .ok (.wrChPush v) ∨ decodeAccess a = .ok (.wrCtrl v)
          ∨ decodeAccess a = .ok (.wrOffset v)))

/-- R93, R306, R291: a running command completes, after its time and one step, whatever the host presents
meanwhile; the result is that of the operands there were, and operands and `CMD` are unchanged. That the
time is counted in steps is the model's choice (assumption 3); nothing is said of how long it is. -/
def Obligations.EveryCommandCompletes : Prop :=
  ∀ s : State, s.state = .busy → s.resetIn = [] → s.scriptDefined →
    ∃ t u, Host.Core.run core (s.delay + 1) s = .next t ∧ completeNow s = .next u
      ∧ s.sameOperands t ∧ t.cmd = s.cmd ∧ t.sameResult u ∧ (t.state = .done ∨ t.state = .error)

/-- R69, R304, R307: the run of a host script ends, and in the state that the machine with start and
completion merged into one step ends in, whatever times the commands take; and where the script reads no
`STATUS`, the words returned to the host are the merged machine's as well. The script and the times are
the model's own fields (assumptions 5 and 3). -/
def Obligations.RunsAgreeWithTheMergedMachine : Prop :=
  ∀ s : State, s.state ≠ .busy → s.resetIn = [] → s.scriptDefined →
    ∃ n t u, Host.Core.run core n s = .next t ∧ t.atEnd
      ∧ mergedRun s.pending { s with pending := [] } = .next u
      ∧ t.core = u.core
      ∧ ((∀ a ∈ s.pending, decodeAccess a ≠ .ok .rdStatus) → t.replies = u.replies)

/-- R290: a host without the reset input reaches the state after reset, but for `CMD`, by the three writes
`CTRL` 0x3F, `OFFSET` 0, `IEN` 0. -/
def Obligations.ThreeWritesReachTheResetState : Prop :=
  ∀ s : State, s.state ≠ .busy → (s.state = .idle → s.out = zeros 24 ∧ s.outlen = 0 ∧ s.err = .noError) →
    s.resetIn = [] → s.pending = [encodeBus (.wrCtrl 0x3F), encodeBus (.wrOffset 0), encodeBus (.wrIen 0)] →
    ∃ t, Host.Core.run core 3 s = .next t
      ∧ t.core = { State.reset.core with cmd := s.cmd, params := s.params }
      ∧ t.replies = s.replies

/-! ### Upper-casing of every text -/

/-- D7, which R171 cites: on every text, of ASCII units or not, `UPCASE` keeps the length, maps each ASCII
unit by the law of R171, and is idempotent. R171 itself states its law for ASCII texts alone; that D7 binds
the others is the model's reading (assumption 1, DEDUCED). Nothing is said of the other units. -/
def Obligations.UpcaseLawsOnEveryText : Prop :=
  ∀ t : Text, (upcase t).length = t.length ∧ upcase (upcase t) = upcase t
    ∧ ∀ i, i < t.length → t.getD i 0 < 0x0080 → (upcase t).getD i 0 =
      if 0x0061 ≤ t.getD i 0 ∧ t.getD i 0 ≤ 0x007A then t.getD i 0 - 0x0020 else t.getD i 0
end

