-- ==== Sys2Proof/Laws/Bytes.lean ====
section
/-! SUPPORT. Laws/Bytes.lean: what the byte-sequence operations, the push into a buffer and the table
lookup of DES are, each said once. -/

namespace Sys2Proof.Machine

@[simp] theorem zeros_getElem (n i : Nat) (h : i < n) : (zeros n)[i] = 0 := by simp [zeros]

@[simp] theorem zeros_toList (n : Nat) : (zeros n).toList = List.replicate n 0 := by simp [zeros]

@[simp] theorem fit_getElem (n : Nat) (b : List Byte) (i : Nat) (h : i < n) :
    (fit n b)[i] = b.getD i 0 := by simp [fit]

@[simp] theorem slice_getElem (n : Nat) (src : List Byte) (off i : Nat) (h : i < n) :
    (slice n src off)[i] = src.getD (off + i) 0 := by simp [slice]

/-- R93, R160: `fit` truncates, or pads with zeros at the end. -/
theorem fit_toList (n : Nat) (b : List Byte) :
    (fit n b).toList = b.take n ++ List.replicate (n - b.length) 0 := by
  apply List.ext_getElem
  · simp; omega
  · intro i h₁ h₂
    have hi : i < n := by simpa using h₁
    by_cases hb : i < b.length
    · rw [List.getElem_append_left (by simp; omega)]
      simp [hb]
    · rw [List.getElem_append_right (by simp; omega)]
      simp [List.getElem?_eq_none (Nat.le_of_not_lt hb)]

/-- On a sequence that already has `n` bytes, `fit` is that sequence. -/
theorem fit_toList_of_length {n : Nat} {b : List Byte} (h : b.length = n) : (fit n b).toList = b := by
  subst h
  simp [fit_toList]

/-- R93: a result of `m` bytes with zeros to 24 (`m + k = 24`). -/
theorem fit_toList_append (m k : Nat) (v : Bytes m) : fit (m + k) v.toList = v ++ zeros k := by
  apply Vector.toList_inj.mp
  rw [fit_toList]
  simp [Vector.toList_append]

/-- R8: where the slice lies inside the sequence it is the sequence's bytes there. -/
theorem slice_toList {n off : Nat} {src : List Byte} (h : off + n ≤ src.length) :
    (slice n src off).toList = (src.drop off).take n := by
  apply List.ext_getElem
  · simp; omega
  · intro i h₁ h₂
    have hi : i < n := by simpa using h₁
    have hs : off + i < src.length := by omega
    simp [hs]

/-- R30: what a push can do: append and keep the flag, below capacity; keep the buffer and set the flag,
at capacity. -/
theorem pushWithin_cases {α : Type} (cap : Nat) (buf : List α) (ovf : Bool) (x : α) :
    (buf.length < cap ∧ pushWithin cap buf ovf x = (buf ++ [x], ovf))
      ∨ (cap ≤ buf.length ∧ pushWithin cap buf ovf x = (buf, true)) := by
  unfold pushWithin
  split
  · exact .inl ⟨‹_›, rfl⟩
  · exact .inr ⟨by omega, rfl⟩

/-- R132: bit `i` (from 0) of a selection is the bit of the operand that the table's entry names. -/
theorem select_getMsbD {n : Nat} (m : Nat) (table : List Nat) (x : BitVec n) (hm : table.length = m)
    (i : Nat) (hi : i < m) :
    (select m table x).getMsbD i = x.getMsbD (table[i]'(by omega) - 1) := by
  subst hm
  simp [select, BitVec.getMsbD_setWidth, BitVec.getMsbD_ofBoolListBE, hi]

end Sys2Proof.Machine
end

