-- ==== Sys2Proof/Laws/Decode.lean ====
section
/-! SUPPORT. Laws/Decode.lean: what the two decoders can answer. -/

namespace Sys2Proof

/-- What a table lookup finds is a row of the table. -/
theorem mem_of_lookup {α β : Type} [BEq α] [LawfulBEq α] {k : α} {v : β} :
    ∀ {l : List (α × β)}, l.lookup k = some v → (k, v) ∈ l
  | [], h => by simp at h
  | (a, b) :: l, h => by
    rw [List.lookup_cons] at h
    split at h
    · obtain rfl := eq_of_beq ‹_›
      cases h
      exact List.mem_cons_self
    · exact List.mem_cons_of_mem _ (mem_of_lookup h)

/-- R95: a command word decodes only to the instruction of its row. -/
theorem decodeCommand_mem {w : Word} {i : Instr} (h : decodeCommand w = .ok i) :
    (w, i) ∈ commandTable := by
  unfold decodeCommand at h
  split at h
  · cases h
    exact mem_of_lookup ‹_›
  · cases h

/-- R62: an access of the interface decodes, by its direction, to its register's row or to the default
row. -/
theorem decodeAccess_of_wellFormed {a : BusAccess} (h : a.wellFormed = true) :
    decodeAccess a = .ok (match a.dir with
      | .write => decodeWrite (BitVec.ofNat 7 a.off) a.value
      | .read => decodeRead (BitVec.ofNat 7 a.off)) := by
  simp only [BusAccess.wellFormed, Bool.and_eq_true, beq_iff_eq, decide_eq_true_eq] at h
  obtain ⟨⟨hw, ha⟩, ho⟩ := h
  have hlt : ¬ 128 ≤ a.off := by omega
  unfold decodeAccess
  simp only [hw, ha, hlt, ne_eq, not_true_eq_false, if_false]
  cases a.dir <;> rfl

/-- R63: an access outside the interface does not decode. -/
theorem decodeAccess_of_not_wellFormed {a : BusAccess} (h : a.wellFormed = false) :
    ∃ e, decodeAccess a = .error e := by
  unfold decodeAccess
  split
  · exact ⟨_, rfl⟩
  split
  · exact ⟨_, rfl⟩
  split
  · exact ⟨_, rfl⟩
  simp_all [BusAccess.wellFormed]

end Sys2Proof
end

