-- ==== Sys2Proof/Laws/Encoders.lean ====
section
/-! SUPPORT. Laws/Encoders.lean: what `UPCASE` and `NARROW` (R171, R172) do, each said once, so that no
later proof unfolds them or looks at a free value. -/

namespace Sys2Proof.Machine

/-- R171: mapping the letters takes no unit into or out of the ASCII range. -/
@[simp] theorem isAscii_asciiUpper (c : CodeUnit) : isAscii (asciiUpper c) = isAscii c := by
  unfold asciiUpper
  split
  · have both : c - 0x0020 < 0x0080 ∧ c < 0x0080 := by constructor <;> bv_omega
    exact decide_eq_decide.mpr ⟨fun _ => both.2, fun _ => both.1⟩
  · rfl

/-- R171: a mapped letter is no lower-case letter. -/
@[simp] theorem asciiUpper_idem (c : CodeUnit) : asciiUpper (asciiUpper c) = asciiUpper c := by
  by_cases lower : 0x0061 ≤ c ∧ c ≤ 0x007A
  · have done : ¬(0x0061 ≤ c - 0x0020 ∧ c - 0x0020 ≤ 0x007A) := by bv_omega
    simp only [asciiUpper, lower, and_self, if_true, done, if_false]
  · simp only [asciiUpper, lower, if_false]

@[simp] theorem map_asciiUpper_idem (t : Text) : (t.map asciiUpper).map asciiUpper = t.map asciiUpper := by
  simp [Function.comp_def]

/-- R171: mapping the letters keeps whether a text is of ASCII units. -/
theorem all_isAscii_map_asciiUpper (t : Text) : (t.map asciiUpper).all isAscii = t.all isAscii := by
  simp [List.all_map, Function.comp_def]

@[simp] theorem fillOpenUnits_length (u free : Text) : (fillOpenUnits u free).length = u.length := by
  induction u generalizing free with
  | nil => rfl
  | cons x u ih => simp only [fillOpenUnits, List.length_cons, ih]

/-- Where there is no open unit, none is filled. -/
theorem fillOpenUnits_of_ascii {u : Text} (free : Text) (ascii : u.all isAscii = true) :
    fillOpenUnits u free = u := by
  induction u generalizing free with
  | nil => rfl
  | cons x u ih =>
    simp only [List.all_cons, Bool.and_eq_true] at ascii
    simp only [fillOpenUnits, ascii.1, if_true, ih _ ascii.2]

/-- An ASCII unit stays. -/
theorem fillOpenUnits_getD_of_ascii (u free : Text) (i : Nat) (ascii : isAscii (u.getD i 0) = true) :
    (fillOpenUnits u free).getD i 0 = u.getD i 0 := by
  induction u generalizing free i with
  | nil => rfl
  | cons x u ih =>
    cases i with
    | zero =>
      have here : isAscii x = true := ascii
      simp only [fillOpenUnits, here, if_true, List.getD_cons_zero]
    | succ i => exact ih free.tail i ascii

/-- What is filled holds no lower-case letter, if the text held none. -/
theorem map_asciiUpper_fillOpenUnits {u : Text} (free : Text) (mapped : u.map asciiUpper = u) :
    (fillOpenUnits u free).map asciiUpper = fillOpenUnits u free := by
  induction u generalizing free with
  | nil => rfl
  | cons x u ih =>
    obtain ⟨hx, hu⟩ := List.cons_eq_cons.mp mapped
    simp only [fillOpenUnits, List.map_cons, ih _ hu]
    split
    · rw [hx]
    · rw [asciiUpper_idem]

/-- R168: the proposal sees a text only through the mapping of its ASCII letters. -/
theorem upcaseProposal_congr {t t' : Text} (same : t.map asciiUpper = t'.map asciiUpper) :
    upcaseProposal t = upcaseProposal t' := by simp only [upcaseProposal, same]

/-- R168: so does `UPCASE`. -/
theorem upcase_congr {t t' : Text} (same : t.map asciiUpper = t'.map asciiUpper) : upcase t = upcase t' := by
  simp only [upcase, upcaseProposal_congr same, same]

/-- Everything `UPCASE` can do: take the proposal, which is upper-cased already, or map the ASCII letters. -/
theorem upcase_cases (t : Text) :
    (upcaseProposal (upcaseProposal t) = upcaseProposal t ∧ upcase t = upcaseProposal t)
      ∨ (upcaseProposal (upcaseProposal t) ≠ upcaseProposal t ∧ upcase t = t.map asciiUpper) := by
  by_cases settled : upcaseProposal (upcaseProposal t) = upcaseProposal t
  · exact .inl ⟨settled, if_pos settled⟩
  · exact .inr ⟨settled, if_neg settled⟩

/-- R171, the law. -/
theorem upcase_of_ascii {t : Text} (ascii : t.all isAscii = true) : upcase t = t.map asciiUpper := by
  have proposal : upcaseProposal t = t.map asciiUpper :=
    fillOpenUnits_of_ascii _ ((all_isAscii_map_asciiUpper t).trans ascii)
  rcases upcase_cases t with ⟨-, taken⟩ | ⟨-, taken⟩
  · exact taken.trans proposal
  · exact taken

/-- R172, the law. -/
theorem narrow_of_ascii {c : CodeUnit} (ascii : isAscii c = true) : narrow c = c.extractLsb' 0 8 := by
  simp only [narrow, ascii, if_true]

end Sys2Proof.Machine
end

