-- ==== Sys2Proof/Laws/State.lean ====
section
/-! SUPPORT. Laws/State.lean: for each named update of the state, what each field is afterwards. All hold by
definition; with them no later proof unfolds a record update. -/

namespace Sys2Proof.Machine

variable (s : State)

/-! ### `State.withoutResult` -/

@[simp] theorem State.withoutResult_pw (q : SeqState) : (s.withoutResult q).pw = s.pw := rfl
@[simp] theorem State.withoutResult_user (q : SeqState) : (s.withoutResult q).user = s.user := rfl
@[simp] theorem State.withoutResult_dom (q : SeqState) : (s.withoutResult q).dom = s.dom := rfl
@[simp] theorem State.withoutResult_userV (q : SeqState) : (s.withoutResult q).userV = s.userV := rfl
@[simp] theorem State.withoutResult_domV (q : SeqState) : (s.withoutResult q).domV = s.domV := rfl
@[simp] theorem State.withoutResult_data (q : SeqState) : (s.withoutResult q).data = s.data := rfl
@[simp] theorem State.withoutResult_ch (q : SeqState) : (s.withoutResult q).ch = s.ch := rfl
@[simp] theorem State.withoutResult_ovfPw (q : SeqState) : (s.withoutResult q).ovfPw = s.ovfPw := rfl
@[simp] theorem State.withoutResult_ovfUser (q : SeqState) : (s.withoutResult q).ovfUser = s.ovfUser := rfl
@[simp] theorem State.withoutResult_ovfDom (q : SeqState) : (s.withoutResult q).ovfDom = s.ovfDom := rfl
@[simp] theorem State.withoutResult_ovfData (q : SeqState) : (s.withoutResult q).ovfData = s.ovfData := rfl
@[simp] theorem State.withoutResult_ovfCh (q : SeqState) : (s.withoutResult q).ovfCh = s.ovfCh := rfl
@[simp] theorem State.withoutResult_offset (q : SeqState) : (s.withoutResult q).offset = s.offset := rfl
@[simp] theorem State.withoutResult_cmd (q : SeqState) : (s.withoutResult q).cmd = s.cmd := rfl
@[simp] theorem State.withoutResult_state (q : SeqState) : (s.withoutResult q).state = q := rfl
@[simp] theorem State.withoutResult_err (q : SeqState) : (s.withoutResult q).err = .noError := rfl
@[simp] theorem State.withoutResult_out (q : SeqState) : (s.withoutResult q).out = zeros 24 := rfl
@[simp] theorem State.withoutResult_outlen (q : SeqState) : (s.withoutResult q).outlen = 0 := rfl
@[simp] theorem State.withoutResult_ie (q : SeqState) : (s.withoutResult q).ie = s.ie := rfl
@[simp] theorem State.withoutResult_params (q : SeqState) : (s.withoutResult q).params = s.params := rfl
@[simp] theorem State.withoutResult_pending (q : SeqState) : (s.withoutResult q).pending = s.pending := rfl
@[simp] theorem State.withoutResult_replies (q : SeqState) : (s.withoutResult q).replies = s.replies := rfl
@[simp] theorem State.withoutResult_resetIn (q : SeqState) : (s.withoutResult q).resetIn = s.resetIn := rfl
@[simp] theorem State.withoutResult_delay (q : SeqState) : (s.withoutResult q).delay = s.delay := rfl
@[simp] theorem State.withoutResult_draw (q : SeqState) : (s.withoutResult q).draw = s.draw := rfl

/-! ### `State.start` -/

@[simp] theorem State.start_pw (w : Word) : (s.start w).pw = s.pw := rfl
@[simp] theorem State.start_user (w : Word) : (s.start w).user = s.user := rfl
@[simp] theorem State.start_dom (w : Word) : (s.start w).dom = s.dom := rfl
@[simp] theorem State.start_userV (w : Word) : (s.start w).userV = s.userV := rfl
@[simp] theorem State.start_domV (w : Word) : (s.start w).domV = s.domV := rfl
@[simp] theorem State.start_data (w : Word) : (s.start w).data = s.data := rfl
@[simp] theorem State.start_ch (w : Word) : (s.start w).ch = s.ch := rfl
@[simp] theorem State.start_ovfPw (w : Word) : (s.start w).ovfPw = s.ovfPw := rfl
@[simp] theorem State.start_ovfUser (w : Word) : (s.start w).ovfUser = s.ovfUser := rfl
@[simp] theorem State.start_ovfDom (w : Word) : (s.start w).ovfDom = s.ovfDom := rfl
@[simp] theorem State.start_ovfData (w : Word) : (s.start w).ovfData = s.ovfData := rfl
@[simp] theorem State.start_ovfCh (w : Word) : (s.start w).ovfCh = s.ovfCh := rfl
@[simp] theorem State.start_offset (w : Word) : (s.start w).offset = s.offset := rfl
@[simp] theorem State.start_cmd (w : Word) : (s.start w).cmd = w := rfl
@[simp] theorem State.start_state (w : Word) : (s.start w).state = .busy := rfl
@[simp] theorem State.start_err (w : Word) : (s.start w).err = .noError := rfl
@[simp] theorem State.start_out (w : Word) : (s.start w).out = zeros 24 := rfl
@[simp] theorem State.start_outlen (w : Word) : (s.start w).outlen = 0 := rfl
@[simp] theorem State.start_ie (w : Word) : (s.start w).ie = s.ie := rfl
@[simp] theorem State.start_params (w : Word) : (s.start w).params = s.params := rfl
@[simp] theorem State.start_pending (w : Word) : (s.start w).pending = s.pending := rfl
@[simp] theorem State.start_replies (w : Word) : (s.start w).replies = s.replies := rfl
@[simp] theorem State.start_resetIn (w : Word) : (s.start w).resetIn = s.resetIn := rfl
@[simp] theorem State.start_delay (w : Word) : (s.start w).delay = Config.latency s w := rfl
@[simp] theorem State.start_draw (w : Word) : (s.start w).draw = s.draw + 1 := rfl

/-! ### `State.deliver` -/

@[simp] theorem State.deliver_pw (b : List Byte) : (s.deliver b).pw = s.pw := rfl
@[simp] theorem State.deliver_user (b : List Byte) : (s.deliver b).user = s.user := rfl
@[simp] theorem State.deliver_dom (b : List Byte) : (s.deliver b).dom = s.dom := rfl
@[simp] theorem State.deliver_userV (b : List Byte) : (s.deliver b).userV = s.userV := rfl
@[simp] theorem State.deliver_domV (b : List Byte) : (s.deliver b).domV = s.domV := rfl
@[simp] theorem State.deliver_data (b : List Byte) : (s.deliver b).data = s.data := rfl
@[simp] theorem State.deliver_ch (b : List Byte) : (s.deliver b).ch = s.ch := rfl
@[simp] theorem State.deliver_ovfPw (b : List Byte) : (s.deliver b).ovfPw = s.ovfPw := rfl
@[simp] theorem State.deliver_ovfUser (b : List Byte) : (s.deliver b).ovfUser = s.ovfUser := rfl
@[simp] theorem State.deliver_ovfDom (b : List Byte) : (s.deliver b).ovfDom = s.ovfDom := rfl
@[simp] theorem State.deliver_ovfData (b : List Byte) : (s.deliver b).ovfData = s.ovfData := rfl
@[simp] theorem State.deliver_ovfCh (b : List Byte) : (s.deliver b).ovfCh = s.ovfCh := rfl
@[simp] theorem State.deliver_offset (b : List Byte) : (s.deliver b).offset = s.offset := rfl
@[simp] theorem State.deliver_cmd (b : List Byte) : (s.deliver b).cmd = s.cmd := rfl
@[simp] theorem State.deliver_state (b : List Byte) : (s.deliver b).state = .done := rfl
@[simp] theorem State.deliver_err (b : List Byte) : (s.deliver b).err = .noError := rfl
@[simp] theorem State.deliver_out (b : List Byte) : (s.deliver b).out = fit 24 b := rfl
@[simp] theorem State.deliver_outlen (b : List Byte) : (s.deliver b).outlen = BitVec.ofNat 5 b.length := rfl
@[simp] theorem State.deliver_ie (b : List Byte) : (s.deliver b).ie = s.ie := rfl
@[simp] theorem State.deliver_params (b : List Byte) : (s.deliver b).params = s.params := rfl
@[simp] theorem State.deliver_pending (b : List Byte) : (s.deliver b).pending = s.pending := rfl
@[simp] theorem State.deliver_replies (b : List Byte) : (s.deliver b).replies = s.replies := rfl
@[simp] theorem State.deliver_resetIn (b : List Byte) : (s.deliver b).resetIn = s.resetIn := rfl
@[simp] theorem State.deliver_delay (b : List Byte) : (s.deliver b).delay = 0 := rfl
@[simp] theorem State.deliver_draw (b : List Byte) : (s.deliver b).draw = s.draw := rfl

/-! ### `State.errorEntry` -/

@[simp] theorem State.errorEntry_pw (e : Err) : (s.errorEntry e).pw = s.pw := rfl
@[simp] theorem State.errorEntry_user (e : Err) : (s.errorEntry e).user = s.user := rfl
@[simp] theorem State.errorEntry_dom (e : Err) : (s.errorEntry e).dom = s.dom := rfl
@[simp] theorem State.errorEntry_userV (e : Err) : (s.errorEntry e).userV = s.userV := rfl
@[simp] theorem State.errorEntry_domV (e : Err) : (s.errorEntry e).domV = s.domV := rfl
@[simp] theorem State.errorEntry_data (e : Err) : (s.errorEntry e).data = s.data := rfl
@[simp] theorem State.errorEntry_ch (e : Err) : (s.errorEntry e).ch = s.ch := rfl
@[simp] theorem State.errorEntry_ovfPw (e : Err) : (s.errorEntry e).ovfPw = s.ovfPw := rfl
@[simp] theorem State.errorEntry_ovfUser (e : Err) : (s.errorEntry e).ovfUser = s.ovfUser := rfl
@[simp] theorem State.errorEntry_ovfDom (e : Err) : (s.errorEntry e).ovfDom = s.ovfDom := rfl
@[simp] theorem State.errorEntry_ovfData (e : Err) : (s.errorEntry e).ovfData = s.ovfData := rfl
@[simp] theorem State.errorEntry_ovfCh (e : Err) : (s.errorEntry e).ovfCh = s.ovfCh := rfl
@[simp] theorem State.errorEntry_offset (e : Err) : (s.errorEntry e).offset = s.offset := rfl
@[simp] theorem State.errorEntry_cmd (e : Err) : (s.errorEntry e).cmd = s.cmd := rfl
@[simp] theorem State.errorEntry_state (e : Err) : (s.errorEntry e).state = .error := rfl
@[simp] theorem State.errorEntry_err (e : Err) : (s.errorEntry e).err = .kind e := rfl
@[simp] theorem State.errorEntry_out (e : Err) : (s.errorEntry e).out = zeros 24 := rfl
@[simp] theorem State.errorEntry_outlen (e : Err) : (s.errorEntry e).outlen = 0 := rfl
@[simp] theorem State.errorEntry_ie (e : Err) : (s.errorEntry e).ie = s.ie := rfl
@[simp] theorem State.errorEntry_params (e : Err) : (s.errorEntry e).params = s.params := rfl
@[simp] theorem State.errorEntry_pending (e : Err) : (s.errorEntry e).pending = s.pending := rfl
@[simp] theorem State.errorEntry_replies (e : Err) : (s.errorEntry e).replies = s.replies := rfl
@[simp] theorem State.errorEntry_resetIn (e : Err) : (s.errorEntry e).resetIn = s.resetIn := rfl
@[simp] theorem State.errorEntry_delay (e : Err) : (s.errorEntry e).delay = 0 := rfl
@[simp] theorem State.errorEntry_draw (e : Err) : (s.errorEntry e).draw = s.draw := rfl

/-! ### `State.pushPw` -/

@[simp] theorem State.pushPw_pw (v : Word) :
    (s.pushPw v).pw = (pushWithin s.params.textMax s.pw s.ovfPw (v.extractLsb' 0 16)).1 := rfl
@[simp] theorem State.pushPw_user (v : Word) : (s.pushPw v).user = s.user := rfl
@[simp] theorem State.pushPw_dom (v : Word) : (s.pushPw v).dom = s.dom := rfl
@[simp] theorem State.pushPw_userV (v : Word) : (s.pushPw v).userV = s.userV := rfl
@[simp] theorem State.pushPw_domV (v : Word) : (s.pushPw v).domV = s.domV := rfl
@[simp] theorem State.pushPw_data (v : Word) : (s.pushPw v).data = s.data := rfl
@[simp] theorem State.pushPw_ch (v : Word) : (s.pushPw v).ch = s.ch := rfl
@[simp] theorem State.pushPw_ovfPw (v : Word) :
    (s.pushPw v).ovfPw = (pushWithin s.params.textMax s.pw s.ovfPw (v.extractLsb' 0 16)).2 := rfl
@[simp] theorem State.pushPw_ovfUser (v : Word) : (s.pushPw v).ovfUser = s.ovfUser := rfl
@[simp] theorem State.pushPw_ovfDom (v : Word) : (s.pushPw v).ovfDom = s.ovfDom := rfl
@[simp] theorem State.pushPw_ovfData (v : Word) : (s.pushPw v).ovfData = s.ovfData := rfl
@[simp] theorem State.pushPw_ovfCh (v : Word) : (s.pushPw v).ovfCh = s.ovfCh := rfl
@[simp] theorem State.pushPw_offset (v : Word) : (s.pushPw v).offset = s.offset := rfl
@[simp] theorem State.pushPw_cmd (v : Word) : (s.pushPw v).cmd = s.cmd := rfl
@[simp] theorem State.pushPw_state (v : Word) : (s.pushPw v).state = s.state := rfl
@[simp] theorem State.pushPw_err (v : Word) : (s.pushPw v).err = s.err := rfl
@[simp] theorem State.pushPw_out (v : Word) : (s.pushPw v).out = s.out := rfl
@[simp] theorem State.pushPw_outlen (v : Word) : (s.pushPw v).outlen = s.outlen := rfl
@[simp] theorem State.pushPw_ie (v : Word) : (s.pushPw v).ie = s.ie := rfl
@[simp] theorem State.pushPw_params (v : Word) : (s.pushPw v).params = s.params := rfl
@[simp] theorem State.pushPw_pending (v : Word) : (s.pushPw v).pending = s.pending := rfl
@[simp] theorem State.pushPw_replies (v : Word) : (s.pushPw v).replies = s.replies := rfl
@[simp] theorem State.pushPw_resetIn (v : Word) : (s.pushPw v).resetIn = s.resetIn := rfl
@[simp] theorem State.pushPw_delay (v : Word) : (s.pushPw v).delay = s.delay := rfl
@[simp] theorem State.pushPw_draw (v : Word) : (s.pushPw v).draw = s.draw := rfl

/-! ### `State.pushUser` -/

@[simp] theorem State.pushUser_pw (v : Word) : (s.pushUser v).pw = s.pw := rfl
@[simp] theorem State.pushUser_user (v : Word) :
    (s.pushUser v).user = (pushWithin s.params.textMax s.user s.ovfUser (v.extractLsb' 0 16)).1 := rfl
@[simp] theorem State.pushUser_dom (v : Word) : (s.pushUser v).dom = s.dom := rfl
@[simp] theorem State.pushUser_userV (v : Word) : (s.pushUser v).userV = true := rfl
@[simp] theorem State.pushUser_domV (v : Word) : (s.pushUser v).domV = s.domV := rfl
@[simp] theorem State.pushUser_data (v : Word) : (s.pushUser v).data = s.data := rfl
@[simp] theorem State.pushUser_ch (v : Word) : (s.pushUser v).ch = s.ch := rfl
@[simp] theorem State.pushUser_ovfPw (v : Word) : (s.pushUser v).ovfPw = s.ovfPw := rfl
@[simp] theorem State.pushUser_ovfUser (v : Word) :
    (s.pushUser v).ovfUser = (pushWithin s.params.textMax s.user s.ovfUser (v.extractLsb' 0 16)).2 := rfl
@[simp] theorem State.pushUser_ovfDom (v : Word) : (s.pushUser v).ovfDom = s.ovfDom := rfl
@[simp] theorem State.pushUser_ovfData (v : Word) : (s.pushUser v).ovfData = s.ovfData := rfl
@[simp] theorem State.pushUser_ovfCh (v : Word) : (s.pushUser v).ovfCh = s.ovfCh := rfl
@[simp] theorem State.pushUser_offset (v : Word) : (s.pushUser v).offset = s.offset := rfl
@[simp] theorem State.pushUser_cmd (v : Word) : (s.pushUser v).cmd = s.cmd := rfl
@[simp] theorem State.pushUser_state (v : Word) : (s.pushUser v).state = s.state := rfl
@[simp] theorem State.pushUser_err (v : Word) : (s.pushUser v).err = s.err := rfl
@[simp] theorem State.pushUser_out (v : Word) : (s.pushUser v).out = s.out := rfl
@[simp] theorem State.pushUser_outlen (v : Word) : (s.pushUser v).outlen = s.outlen := rfl
@[simp] theorem State.pushUser_ie (v : Word) : (s.pushUser v).ie = s.ie := rfl
@[simp] theorem State.pushUser_params (v : Word) : (s.pushUser v).params = s.params := rfl
@[simp] theorem State.pushUser_pending (v : Word) : (s.pushUser v).pending = s.pending := rfl
@[simp] theorem State.pushUser_replies (v : Word) : (s.pushUser v).replies = s.replies := rfl
@[simp] theorem State.pushUser_resetIn (v : Word) : (s.pushUser v).resetIn = s.resetIn := rfl
@[simp] theorem State.pushUser_delay (v : Word) : (s.pushUser v).delay = s.delay := rfl
@[simp] theorem State.pushUser_draw (v : Word) : (s.pushUser v).draw = s.draw := rfl

/-! ### `State.pushDom` -/

@[simp] theorem State.pushDom_pw (v : Word) : (s.pushDom v).pw = s.pw := rfl
@[simp] theorem State.pushDom_user (v : Word) : (s.pushDom v).user = s.user := rfl
@[simp] theorem State.pushDom_dom (v : Word) :
    (s.pushDom v).dom = (pushWithin s.params.textMax s.dom s.ovfDom (v.extractLsb' 0 16)).1 := rfl
@[simp] theorem State.pushDom_userV (v : Word) : (s.pushDom v).userV = s.userV := rfl
@[simp] theorem State.pushDom_domV (v : Word) : (s.pushDom v).domV = true := rfl
@[simp] theorem State.pushDom_data (v : Word) : (s.pushDom v).data = s.data := rfl
@[simp] theorem State.pushDom_ch (v : Word) : (s.pushDom v).ch = s.ch := rfl
@[simp] theorem State.pushDom_ovfPw (v : Word) : (s.pushDom v).ovfPw = s.ovfPw := rfl
@[simp] theorem State.pushDom_ovfUser (v : Word) : (s.pushDom v).ovfUser = s.ovfUser := rfl
@[simp] theorem State.pushDom_ovfDom (v : Word) :
    (s.pushDom v).ovfDom = (pushWithin s.params.textMax s.dom s.ovfDom (v.extractLsb' 0 16)).2 := rfl
@[simp] theorem State.pushDom_ovfData (v : Word) : (s.pushDom v).ovfData = s.ovfData := rfl
@[simp] theorem State.pushDom_ovfCh (v : Word) : (s.pushDom v).ovfCh = s.ovfCh := rfl
@[simp] theorem State.pushDom_offset (v : Word) : (s.pushDom v).offset = s.offset := rfl
@[simp] theorem State.pushDom_cmd (v : Word) : (s.pushDom v).cmd = s.cmd := rfl
@[simp] theorem State.pushDom_state (v : Word) : (s.pushDom v).state = s.state := rfl
@[simp] theorem State.pushDom_err (v : Word) : (s.pushDom v).err = s.err := rfl
@[simp] theorem State.pushDom_out (v : Word) : (s.pushDom v).out = s.out := rfl
@[simp] theorem State.pushDom_outlen (v : Word) : (s.pushDom v).outlen = s.outlen := rfl
@[simp] theorem State.pushDom_ie (v : Word) : (s.pushDom v).ie = s.ie := rfl
@[simp] theorem State.pushDom_params (v : Word) : (s.pushDom v).params = s.params := rfl
@[simp] theorem State.pushDom_pending (v : Word) : (s.pushDom v).pending = s.pending := rfl
@[simp] theorem State.pushDom_replies (v : Word) : (s.pushDom v).replies = s.replies := rfl
@[simp] theorem State.pushDom_resetIn (v : Word) : (s.pushDom v).resetIn = s.resetIn := rfl
@[simp] theorem State.pushDom_delay (v : Word) : (s.pushDom v).delay = s.delay := rfl
@[simp] theorem State.pushDom_draw (v : Word) : (s.pushDom v).draw = s.draw := rfl

/-! ### `State.pushData` -/

@[simp] theorem State.pushData_pw (v : Word) : (s.pushData v).pw = s.pw := rfl
@[simp] theorem State.pushData_user (v : Word) : (s.pushData v).user = s.user := rfl
@[simp] theorem State.pushData_dom (v : Word) : (s.pushData v).dom = s.dom := rfl
@[simp] theorem State.pushData_userV (v : Word) : (s.pushData v).userV = s.userV := rfl
@[simp] theorem State.pushData_domV (v : Word) : (s.pushData v).domV = s.domV := rfl
@[simp] theorem State.pushData_data (v : Word) :
    (s.pushData v).data = (pushWithin s.params.dataMax s.data s.ovfData (v.extractLsb' 0 8)).1 := rfl
@[simp] theorem State.pushData_ch (v : Word) : (s.pushData v).ch = s.ch := rfl
@[simp] theorem State.pushData_ovfPw (v : Word) : (s.pushData v).ovfPw = s.ovfPw := rfl
@[simp] theorem State.pushData_ovfUser (v : Word) : (s.pushData v).ovfUser = s.ovfUser := rfl
@[simp] theorem State.pushData_ovfDom (v : Word) : (s.pushData v).ovfDom = s.ovfDom := rfl
@[simp] theorem State.pushData_ovfData (v : Word) :
    (s.pushData v).ovfData = (pushWithin s.params.dataMax s.data s.ovfData (v.extractLsb' 0 8)).2 := rfl
@[simp] theorem State.pushData_ovfCh (v : Word) : (s.pushData v).ovfCh = s.ovfCh := rfl
@[simp] theorem State.pushData_offset (v : Word) : (s.pushData v).offset = s.offset := rfl
@[simp] theorem State.pushData_cmd (v : Word) : (s.pushData v).cmd = s.cmd := rfl
@[simp] theorem State.pushData_state (v : Word) : (s.pushData v).state = s.state := rfl
@[simp] theorem State.pushData_err (v : Word) : (s.pushData v).err = s.err := rfl
@[simp] theorem State.pushData_out (v : Word) : (s.pushData v).out = s.out := rfl
@[simp] theorem State.pushData_outlen (v : Word) : (s.pushData v).outlen = s.outlen := rfl
@[simp] theorem State.pushData_ie (v : Word) : (s.pushData v).ie = s.ie := rfl
@[simp] theorem State.pushData_params (v : Word) : (s.pushData v).params = s.params := rfl
@[simp] theorem State.pushData_pending (v : Word) : (s.pushData v).pending = s.pending := rfl
@[simp] theorem State.pushData_replies (v : Word) : (s.pushData v).replies = s.replies := rfl
@[simp] theorem State.pushData_resetIn (v : Word) : (s.pushData v).resetIn = s.resetIn := rfl
@[simp] theorem State.pushData_delay (v : Word) : (s.pushData v).delay = s.delay := rfl
@[simp] theorem State.pushData_draw (v : Word) : (s.pushData v).draw = s.draw := rfl

/-! ### `State.pushCh` -/

@[simp] theorem State.pushCh_pw (v : Word) : (s.pushCh v).pw = s.pw := rfl
@[simp] theorem State.pushCh_user (v : Word) : (s.pushCh v).user = s.user := rfl
@[simp] theorem State.pushCh_dom (v : Word) : (s.pushCh v).dom = s.dom := rfl
@[simp] theorem State.pushCh_userV (v : Word) : (s.pushCh v).userV = s.userV := rfl
@[simp] theorem State.pushCh_domV (v : Word) : (s.pushCh v).domV = s.domV := rfl
@[simp] theorem State.pushCh_data (v : Word) : (s.pushCh v).data = s.data := rfl
@[simp] theorem State.pushCh_ch (v : Word) :
    (s.pushCh v).ch = (pushWithin s.params.chMax s.ch s.ovfCh (v.extractLsb' 0 8)).1 := rfl
@[simp] theorem State.pushCh_ovfPw (v : Word) : (s.pushCh v).ovfPw = s.ovfPw := rfl
@[simp] theorem State.pushCh_ovfUser (v : Word) : (s.pushCh v).ovfUser = s.ovfUser := rfl
@[simp] theorem State.pushCh_ovfDom (v : Word) : (s.pushCh v).ovfDom = s.ovfDom := rfl
@[simp] theorem State.pushCh_ovfData (v : Word) : (s.pushCh v).ovfData = s.ovfData := rfl
@[simp] theorem State.pushCh_ovfCh (v : Word) :
    (s.pushCh v).ovfCh = (pushWithin s.params.chMax s.ch s.ovfCh (v.extractLsb' 0 8)).2 := rfl
@[simp] theorem State.pushCh_offset (v : Word) : (s.pushCh v).offset = s.offset := rfl
@[simp] theorem State.pushCh_cmd (v : Word) : (s.pushCh v).cmd = s.cmd := rfl
@[simp] theorem State.pushCh_state (v : Word) : (s.pushCh v).state = s.state := rfl
@[simp] theorem State.pushCh_err (v : Word) : (s.pushCh v).err = s.err := rfl
@[simp] theorem State.pushCh_out (v : Word) : (s.pushCh v).out = s.out := rfl
@[simp] theorem State.pushCh_outlen (v : Word) : (s.pushCh v).outlen = s.outlen := rfl
@[simp] theorem State.pushCh_ie (v : Word) : (s.pushCh v).ie = s.ie := rfl
@[simp] theorem State.pushCh_params (v : Word) : (s.pushCh v).params = s.params := rfl
@[simp] theorem State.pushCh_pending (v : Word) : (s.pushCh v).pending = s.pending := rfl
@[simp] theorem State.pushCh_replies (v : Word) : (s.pushCh v).replies = s.replies := rfl
@[simp] theorem State.pushCh_resetIn (v : Word) : (s.pushCh v).resetIn = s.resetIn := rfl
@[simp] theorem State.pushCh_delay (v : Word) : (s.pushCh v).delay = s.delay := rfl
@[simp] theorem State.pushCh_draw (v : Word) : (s.pushCh v).draw = s.draw := rfl

/-! ### `State.clearPw` -/

@[simp] theorem State.clearPw_pw : (s.clearPw).pw = [] := rfl
@[simp] theorem State.clearPw_user : (s.clearPw).user = s.user := rfl
@[simp] theorem State.clearPw_dom : (s.clearPw).dom = s.dom := rfl
@[simp] theorem State.clearPw_userV : (s.clearPw).userV = s.userV := rfl
@[simp] theorem State.clearPw_domV : (s.clearPw).domV = s.domV := rfl
@[simp] theorem State.clearPw_data : (s.clearPw).data = s.data := rfl
@[simp] theorem State.clearPw_ch : (s.clearPw).ch = s.ch := rfl
@[simp] theorem State.clearPw_ovfPw : (s.clearPw).ovfPw = false := rfl
@[simp] theorem State.clearPw_ovfUser : (s.clearPw).ovfUser = s.ovfUser := rfl
@[simp] theorem State.clearPw_ovfDom : (s.clearPw).ovfDom = s.ovfDom := rfl
@[simp] theorem State.clearPw_ovfData : (s.clearPw).ovfData = s.ovfData := rfl
@[simp] theorem State.clearPw_ovfCh : (s.clearPw).ovfCh = s.ovfCh := rfl
@[simp] theorem State.clearPw_offset : (s.clearPw).offset = s.offset := rfl
@[simp] theorem State.clearPw_cmd : (s.clearPw).cmd = s.cmd := rfl
@[simp] theorem State.clearPw_state : (s.clearPw).state = s.state := rfl
@[simp] theorem State.clearPw_err : (s.clearPw).err = s.err := rfl
@[simp] theorem State.clearPw_out : (s.clearPw).out = s.out := rfl
@[simp] theorem State.clearPw_outlen : (s.clearPw).outlen = s.outlen := rfl
@[simp] theorem State.clearPw_ie : (s.clearPw).ie = s.ie := rfl
@[simp] theorem State.clearPw_params : (s.clearPw).params = s.params := rfl
@[simp] theorem State.clearPw_pending : (s.clearPw).pending = s.pending := rfl
@[simp] theorem State.clearPw_replies : (s.clearPw).replies = s.replies := rfl
@[simp] theorem State.clearPw_resetIn : (s.clearPw).resetIn = s.resetIn := rfl
@[simp] theorem State.clearPw_delay : (s.clearPw).delay = s.delay := rfl
@[simp] theorem State.clearPw_draw : (s.clearPw).draw = s.draw := rfl

/-! ### `State.clearUser` -/

@[simp] theorem State.clearUser_pw : (s.clearUser).pw = s.pw := rfl
@[simp] theorem State.clearUser_user : (s.clearUser).user = [] := rfl
@[simp] theorem State.clearUser_dom : (s.clearUser).dom = s.dom := rfl
@[simp] theorem State.clearUser_userV : (s.clearUser).userV = false := rfl
@[simp] theorem State.clearUser_domV : (s.clearUser).domV = s.domV := rfl
@[simp] theorem State.clearUser_data : (s.clearUser).data = s.data := rfl
@[simp] theorem State.clearUser_ch : (s.clearUser).ch = s.ch := rfl
@[simp] theorem State.clearUser_ovfPw : (s.clearUser).ovfPw = s.ovfPw := rfl
@[simp] theorem State.clearUser_ovfUser : (s.clearUser).ovfUser = false := rfl
@[simp] theorem State.clearUser_ovfDom : (s.clearUser).ovfDom = s.ovfDom := rfl
@[simp] theorem State.clearUser_ovfData : (s.clearUser).ovfData = s.ovfData := rfl
@[simp] theorem State.clearUser_ovfCh : (s.clearUser).ovfCh = s.ovfCh := rfl
@[simp] theorem State.clearUser_offset : (s.clearUser).offset = s.offset := rfl
@[simp] theorem State.clearUser_cmd : (s.clearUser).cmd = s.cmd := rfl
@[simp] theorem State.clearUser_state : (s.clearUser).state = s.state := rfl
@[simp] theorem State.clearUser_err : (s.clearUser).err = s.err := rfl
@[simp] theorem State.clearUser_out : (s.clearUser).out = s.out := rfl
@[simp] theorem State.clearUser_outlen : (s.clearUser).outlen = s.outlen := rfl
@[simp] theorem State.clearUser_ie : (s.clearUser).ie = s.ie := rfl
@[simp] theorem State.clearUser_params : (s.clearUser).params = s.params := rfl
@[simp] theorem State.clearUser_pending : (s.clearUser).pending = s.pending := rfl
@[simp] theorem State.clearUser_replies : (s.clearUser).replies = s.replies := rfl
@[simp] theorem State.clearUser_resetIn : (s.clearUser).resetIn = s.resetIn := rfl
@[simp] theorem State.clearUser_delay : (s.clearUser).delay = s.delay := rfl
@[simp] theorem State.clearUser_draw : (s.clearUser).draw = s.draw := rfl

/-! ### `State.clearDom` -/

@[simp] theorem State.clearDom_pw : (s.clearDom).pw = s.pw := rfl
@[simp] theorem State.clearDom_user : (s.clearDom).user = s.user := rfl
@[simp] theorem State.clearDom_dom : (s.clearDom).dom = [] := rfl
@[simp] theorem State.clearDom_userV : (s.clearDom).userV = s.userV := rfl
@[simp] theorem State.clearDom_domV : (s.clearDom).domV = false := rfl
@[simp] theorem State.clearDom_data : (s.clearDom).data = s.data := rfl
@[simp] theorem State.clearDom_ch : (s.clearDom).ch = s.ch := rfl
@[simp] theorem State.clearDom_ovfPw : (s.clearDom).ovfPw = s.ovfPw := rfl
@[simp] theorem State.clearDom_ovfUser : (s.clearDom).ovfUser = s.ovfUser := rfl
@[simp] theorem State.clearDom_ovfDom : (s.clearDom).ovfDom = false := rfl
@[simp] theorem State.clearDom_ovfData : (s.clearDom).ovfData = s.ovfData := rfl
@[simp] theorem State.clearDom_ovfCh : (s.clearDom).ovfCh = s.ovfCh := rfl
@[simp] theorem State.clearDom_offset : (s.clearDom).offset = s.offset := rfl
@[simp] theorem State.clearDom_cmd : (s.clearDom).cmd = s.cmd := rfl
@[simp] theorem State.clearDom_state : (s.clearDom).state = s.state := rfl
@[simp] theorem State.clearDom_err : (s.clearDom).err = s.err := rfl
@[simp] theorem State.clearDom_out : (s.clearDom).out = s.out := rfl
@[simp] theorem State.clearDom_outlen : (s.clearDom).outlen = s.outlen := rfl
@[simp] theorem State.clearDom_ie : (s.clearDom).ie = s.ie := rfl
@[simp] theorem State.clearDom_params : (s.clearDom).params = s.params := rfl
@[simp] theorem State.clearDom_pending : (s.clearDom).pending = s.pending := rfl
@[simp] theorem State.clearDom_replies : (s.clearDom).replies = s.replies := rfl
@[simp] theorem State.clearDom_resetIn : (s.clearDom).resetIn = s.resetIn := rfl
@[simp] theorem State.clearDom_delay : (s.clearDom).delay = s.delay := rfl
@[simp] theorem State.clearDom_draw : (s.clearDom).draw = s.draw := rfl

/-! ### `State.clearData` -/

@[simp] theorem State.clearData_pw : (s.clearData).pw = s.pw := rfl
@[simp] theorem State.clearData_user : (s.clearData).user = s.user := rfl
@[simp] theorem State.clearData_dom : (s.clearData).dom = s.dom := rfl
@[simp] theorem State.clearData_userV : (s.clearData).userV = s.userV := rfl
@[simp] theorem State.clearData_domV : (s.clearData).domV = s.domV := rfl
@[simp] theorem State.clearData_data : (s.clearData).data = [] := rfl
@[simp] theorem State.clearData_ch : (s.clearData).ch = s.ch := rfl
@[simp] theorem State.clearData_ovfPw : (s.clearData).ovfPw = s.ovfPw := rfl
@[simp] theorem State.clearData_ovfUser : (s.clearData).ovfUser = s.ovfUser := rfl
@[simp] theorem State.clearData_ovfDom : (s.clearData).ovfDom = s.ovfDom := rfl
@[simp] theorem State.clearData_ovfData : (s.clearData).ovfData = false := rfl
@[simp] theorem State.clearData_ovfCh : (s.clearData).ovfCh = s.ovfCh := rfl
@[simp] theorem State.clearData_offset : (s.clearData).offset = s.offset := rfl
@[simp] theorem State.clearData_cmd : (s.clearData).cmd = s.cmd := rfl
@[simp] theorem State.clearData_state : (s.clearData).state = s.state := rfl
@[simp] theorem State.clearData_err : (s.clearData).err = s.err := rfl
@[simp] theorem State.clearData_out : (s.clearData).out = s.out := rfl
@[simp] theorem State.clearData_outlen : (s.clearData).outlen = s.outlen := rfl
@[simp] theorem State.clearData_ie : (s.clearData).ie = s.ie := rfl
@[simp] theorem State.clearData_params : (s.clearData).params = s.params := rfl
@[simp] theorem State.clearData_pending : (s.clearData).pending = s.pending := rfl
@[simp] theorem State.clearData_replies : (s.clearData).replies = s.replies := rfl
@[simp] theorem State.clearData_resetIn : (s.clearData).resetIn = s.resetIn := rfl
@[simp] theorem State.clearData_delay : (s.clearData).delay = s.delay := rfl
@[simp] theorem State.clearData_draw : (s.clearData).draw = s.draw := rfl

/-! ### `State.clearCh` -/

@[simp] theorem State.clearCh_pw : (s.clearCh).pw = s.pw := rfl
@[simp] theorem State.clearCh_user : (s.clearCh).user = s.user := rfl
@[simp] theorem State.clearCh_dom : (s.clearCh).dom = s.dom := rfl
@[simp] theorem State.clearCh_userV : (s.clearCh).userV = s.userV := rfl
@[simp] theorem State.clearCh_domV : (s.clearCh).domV = s.domV := rfl
@[simp] theorem State.clearCh_data : (s.clearCh).data = s.data := rfl
@[simp] theorem State.clearCh_ch : (s.clearCh).ch = [] := rfl
@[simp] theorem State.clearCh_ovfPw : (s.clearCh).ovfPw = s.ovfPw := rfl
@[simp] theorem State.clearCh_ovfUser : (s.clearCh).ovfUser = s.ovfUser := rfl
@[simp] theorem State.clearCh_ovfDom : (s.clearCh).ovfDom = s.ovfDom := rfl
@[simp] theorem State.clearCh_ovfData : (s.clearCh).ovfData = s.ovfData := rfl
@[simp] theorem State.clearCh_ovfCh : (s.clearCh).ovfCh = false := rfl
@[simp] theorem State.clearCh_offset : (s.clearCh).offset = s.offset := rfl
@[simp] theorem State.clearCh_cmd : (s.clearCh).cmd = s.cmd := rfl
@[simp] theorem State.clearCh_state : (s.clearCh).state = s.state := rfl
@[simp] theorem State.clearCh_err : (s.clearCh).err = s.err := rfl
@[simp] theorem State.clearCh_out : (s.clearCh).out = s.out := rfl
@[simp] theorem State.clearCh_outlen : (s.clearCh).outlen = s.outlen := rfl
@[simp] theorem State.clearCh_ie : (s.clearCh).ie = s.ie := rfl
@[simp] theorem State.clearCh_params : (s.clearCh).params = s.params := rfl
@[simp] theorem State.clearCh_pending : (s.clearCh).pending = s.pending := rfl
@[simp] theorem State.clearCh_replies : (s.clearCh).replies = s.replies := rfl
@[simp] theorem State.clearCh_resetIn : (s.clearCh).resetIn = s.resetIn := rfl
@[simp] theorem State.clearCh_delay : (s.clearCh).delay = s.delay := rfl
@[simp] theorem State.clearCh_draw : (s.clearCh).draw = s.draw := rfl

/-! ### `State.setUser` -/

@[simp] theorem State.setUser_pw : (s.setUser).pw = s.pw := rfl
@[simp] theorem State.setUser_user : (s.setUser).user = s.user := rfl
@[simp] theorem State.setUser_dom : (s.setUser).dom = s.dom := rfl
@[simp] theorem State.setUser_userV : (s.setUser).userV = true := rfl
@[simp] theorem State.setUser_domV : (s.setUser).domV = s.domV := rfl
@[simp] theorem State.setUser_data : (s.setUser).data = s.data := rfl
@[simp] theorem State.setUser_ch : (s.setUser).ch = s.ch := rfl
@[simp] theorem State.setUser_ovfPw : (s.setUser).ovfPw = s.ovfPw := rfl
@[simp] theorem State.setUser_ovfUser : (s.setUser).ovfUser = s.ovfUser := rfl
@[simp] theorem State.setUser_ovfDom : (s.setUser).ovfDom = s.ovfDom := rfl
@[simp] theorem State.setUser_ovfData : (s.setUser).ovfData = s.ovfData := rfl
@[simp] theorem State.setUser_ovfCh : (s.setUser).ovfCh = s.ovfCh := rfl
@[simp] theorem State.setUser_offset : (s.setUser).offset = s.offset := rfl
@[simp] theorem State.setUser_cmd : (s.setUser).cmd = s.cmd := rfl
@[simp] theorem State.setUser_state : (s.setUser).state = s.state := rfl
@[simp] theorem State.setUser_err : (s.setUser).err = s.err := rfl
@[simp] theorem State.setUser_out : (s.setUser).out = s.out := rfl
@[simp] theorem State.setUser_outlen : (s.setUser).outlen = s.outlen := rfl
@[simp] theorem State.setUser_ie : (s.setUser).ie = s.ie := rfl
@[simp] theorem State.setUser_params : (s.setUser).params = s.params := rfl
@[simp] theorem State.setUser_pending : (s.setUser).pending = s.pending := rfl
@[simp] theorem State.setUser_replies : (s.setUser).replies = s.replies := rfl
@[simp] theorem State.setUser_resetIn : (s.setUser).resetIn = s.resetIn := rfl
@[simp] theorem State.setUser_delay : (s.setUser).delay = s.delay := rfl
@[simp] theorem State.setUser_draw : (s.setUser).draw = s.draw := rfl

/-! ### `State.setDom` -/

@[simp] theorem State.setDom_pw : (s.setDom).pw = s.pw := rfl
@[simp] theorem State.setDom_user : (s.setDom).user = s.user := rfl
@[simp] theorem State.setDom_dom : (s.setDom).dom = s.dom := rfl
@[simp] theorem State.setDom_userV : (s.setDom).userV = s.userV := rfl
@[simp] theorem State.setDom_domV : (s.setDom).domV = true := rfl
@[simp] theorem State.setDom_data : (s.setDom).data = s.data := rfl
@[simp] theorem State.setDom_ch : (s.setDom).ch = s.ch := rfl
@[simp] theorem State.setDom_ovfPw : (s.setDom).ovfPw = s.ovfPw := rfl
@[simp] theorem State.setDom_ovfUser : (s.setDom).ovfUser = s.ovfUser := rfl
@[simp] theorem State.setDom_ovfDom : (s.setDom).ovfDom = s.ovfDom := rfl
@[simp] theorem State.setDom_ovfData : (s.setDom).ovfData = s.ovfData := rfl
@[simp] theorem State.setDom_ovfCh : (s.setDom).ovfCh = s.ovfCh := rfl
@[simp] theorem State.setDom_offset : (s.setDom).offset = s.offset := rfl
@[simp] theorem State.setDom_cmd : (s.setDom).cmd = s.cmd := rfl
@[simp] theorem State.setDom_state : (s.setDom).state = s.state := rfl
@[simp] theorem State.setDom_err : (s.setDom).err = s.err := rfl
@[simp] theorem State.setDom_out : (s.setDom).out = s.out := rfl
@[simp] theorem State.setDom_outlen : (s.setDom).outlen = s.outlen := rfl
@[simp] theorem State.setDom_ie : (s.setDom).ie = s.ie := rfl
@[simp] theorem State.setDom_params : (s.setDom).params = s.params := rfl
@[simp] theorem State.setDom_pending : (s.setDom).pending = s.pending := rfl
@[simp] theorem State.setDom_replies : (s.setDom).replies = s.replies := rfl
@[simp] theorem State.setDom_resetIn : (s.setDom).resetIn = s.resetIn := rfl
@[simp] theorem State.setDom_delay : (s.setDom).delay = s.delay := rfl
@[simp] theorem State.setDom_draw : (s.setDom).draw = s.draw := rfl

/-! ### `State.hold` -/

@[simp] theorem State.hold_pw (a : BusAccess) : (s.hold a).pw = s.pw := rfl
@[simp] theorem State.hold_user (a : BusAccess) : (s.hold a).user = s.user := rfl
@[simp] theorem State.hold_dom (a : BusAccess) : (s.hold a).dom = s.dom := rfl
@[simp] theorem State.hold_userV (a : BusAccess) : (s.hold a).userV = s.userV := rfl
@[simp] theorem State.hold_domV (a : BusAccess) : (s.hold a).domV = s.domV := rfl
@[simp] theorem State.hold_data (a : BusAccess) : (s.hold a).data = s.data := rfl
@[simp] theorem State.hold_ch (a : BusAccess) : (s.hold a).ch = s.ch := rfl
@[simp] theorem State.hold_ovfPw (a : BusAccess) : (s.hold a).ovfPw = s.ovfPw := rfl
@[simp] theorem State.hold_ovfUser (a : BusAccess) : (s.hold a).ovfUser = s.ovfUser := rfl
@[simp] theorem State.hold_ovfDom (a : BusAccess) : (s.hold a).ovfDom = s.ovfDom := rfl
@[simp] theorem State.hold_ovfData (a : BusAccess) : (s.hold a).ovfData = s.ovfData := rfl
@[simp] theorem State.hold_ovfCh (a : BusAccess) : (s.hold a).ovfCh = s.ovfCh := rfl
@[simp] theorem State.hold_offset (a : BusAccess) : (s.hold a).offset = s.offset := rfl
@[simp] theorem State.hold_cmd (a : BusAccess) : (s.hold a).cmd = s.cmd := rfl
@[simp] theorem State.hold_state (a : BusAccess) : (s.hold a).state = s.state := rfl
@[simp] theorem State.hold_err (a : BusAccess) : (s.hold a).err = s.err := rfl
@[simp] theorem State.hold_out (a : BusAccess) : (s.hold a).out = s.out := rfl
@[simp] theorem State.hold_outlen (a : BusAccess) : (s.hold a).outlen = s.outlen := rfl
@[simp] theorem State.hold_ie (a : BusAccess) : (s.hold a).ie = s.ie := rfl
@[simp] theorem State.hold_params (a : BusAccess) : (s.hold a).params = s.params := rfl
@[simp] theorem State.hold_pending (a : BusAccess) : (s.hold a).pending = a :: s.pending := rfl
@[simp] theorem State.hold_replies (a : BusAccess) : (s.hold a).replies = s.replies := rfl
@[simp] theorem State.hold_resetIn (a : BusAccess) : (s.hold a).resetIn = s.resetIn := rfl
@[simp] theorem State.hold_delay (a : BusAccess) : (s.hold a).delay = s.delay := rfl
@[simp] theorem State.hold_draw (a : BusAccess) : (s.hold a).draw = s.draw := rfl

/-! ### `State.reply` -/

@[simp] theorem State.reply_pw (v : Word) : (s.reply v).pw = s.pw := rfl
@[simp] theorem State.reply_user (v : Word) : (s.reply v).user = s.user := rfl
@[simp] theorem State.reply_dom (v : Word) : (s.reply v).dom = s.dom := rfl
@[simp] theorem State.reply_userV (v : Word) : (s.reply v).userV = s.userV := rfl
@[simp] theorem State.reply_domV (v : Word) : (s.reply v).domV = s.domV := rfl
@[simp] theorem State.reply_data (v : Word) : (s.reply v).data = s.data := rfl
@[simp] theorem State.reply_ch (v : Word) : (s.reply v).ch = s.ch := rfl
@[simp] theorem State.reply_ovfPw (v : Word) : (s.reply v).ovfPw = s.ovfPw := rfl
@[simp] theorem State.reply_ovfUser (v : Word) : (s.reply v).ovfUser = s.ovfUser := rfl
@[simp] theorem State.reply_ovfDom (v : Word) : (s.reply v).ovfDom = s.ovfDom := rfl
@[simp] theorem State.reply_ovfData (v : Word) : (s.reply v).ovfData = s.ovfData := rfl
@[simp] theorem State.reply_ovfCh (v : Word) : (s.reply v).ovfCh = s.ovfCh := rfl
@[simp] theorem State.reply_offset (v : Word) : (s.reply v).offset = s.offset := rfl
@[simp] theorem State.reply_cmd (v : Word) : (s.reply v).cmd = s.cmd := rfl
@[simp] theorem State.reply_state (v : Word) : (s.reply v).state = s.state := rfl
@[simp] theorem State.reply_err (v : Word) : (s.reply v).err = s.err := rfl
@[simp] theorem State.reply_out (v : Word) : (s.reply v).out = s.out := rfl
@[simp] theorem State.reply_outlen (v : Word) : (s.reply v).outlen = s.outlen := rfl
@[simp] theorem State.reply_ie (v : Word) : (s.reply v).ie = s.ie := rfl
@[simp] theorem State.reply_params (v : Word) : (s.reply v).params = s.params := rfl
@[simp] theorem State.reply_pending (v : Word) : (s.reply v).pending = s.pending := rfl
@[simp] theorem State.reply_replies (v : Word) : (s.reply v).replies = s.replies ++ [v] := rfl
@[simp] theorem State.reply_resetIn (v : Word) : (s.reply v).resetIn = s.resetIn := rfl
@[simp] theorem State.reply_delay (v : Word) : (s.reply v).delay = s.delay := rfl
@[simp] theorem State.reply_draw (v : Word) : (s.reply v).draw = s.draw := rfl

/-! ### `State.tick` -/

@[simp] theorem State.tick_pw : (s.tick).pw = s.pw := rfl
@[simp] theorem State.tick_user : (s.tick).user = s.user := rfl
@[simp] theorem State.tick_dom : (s.tick).dom = s.dom := rfl
@[simp] theorem State.tick_userV : (s.tick).userV = s.userV := rfl
@[simp] theorem State.tick_domV : (s.tick).domV = s.domV := rfl
@[simp] theorem State.tick_data : (s.tick).data = s.data := rfl
@[simp] theorem State.tick_ch : (s.tick).ch = s.ch := rfl
@[simp] theorem State.tick_ovfPw : (s.tick).ovfPw = s.ovfPw := rfl
@[simp] theorem State.tick_ovfUser : (s.tick).ovfUser = s.ovfUser := rfl
@[simp] theorem State.tick_ovfDom : (s.tick).ovfDom = s.ovfDom := rfl
@[simp] theorem State.tick_ovfData : (s.tick).ovfData = s.ovfData := rfl
@[simp] theorem State.tick_ovfCh : (s.tick).ovfCh = s.ovfCh := rfl
@[simp] theorem State.tick_offset : (s.tick).offset = s.offset := rfl
@[simp] theorem State.tick_cmd : (s.tick).cmd = s.cmd := rfl
@[simp] theorem State.tick_state : (s.tick).state = s.state := rfl
@[simp] theorem State.tick_err : (s.tick).err = s.err := rfl
@[simp] theorem State.tick_out : (s.tick).out = s.out := rfl
@[simp] theorem State.tick_outlen : (s.tick).outlen = s.outlen := rfl
@[simp] theorem State.tick_ie : (s.tick).ie = s.ie := rfl
@[simp] theorem State.tick_params : (s.tick).params = s.params := rfl
@[simp] theorem State.tick_pending : (s.tick).pending = s.pending := rfl
@[simp] theorem State.tick_replies : (s.tick).replies = s.replies := rfl
@[simp] theorem State.tick_resetIn : (s.tick).resetIn = s.resetIn.tail := rfl
@[simp] theorem State.tick_delay : (s.tick).delay = s.delay - 1 := rfl
@[simp] theorem State.tick_draw : (s.tick).draw = s.draw := rfl

/-! ### `State.pop` -/

@[simp] theorem State.pop_pw : (s.pop).pw = s.pw := rfl
@[simp] theorem State.pop_user : (s.pop).user = s.user := rfl
@[simp] theorem State.pop_dom : (s.pop).dom = s.dom := rfl
@[simp] theorem State.pop_userV : (s.pop).userV = s.userV := rfl
@[simp] theorem State.pop_domV : (s.pop).domV = s.domV := rfl
@[simp] theorem State.pop_data : (s.pop).data = s.data := rfl
@[simp] theorem State.pop_ch : (s.pop).ch = s.ch := rfl
@[simp] theorem State.pop_ovfPw : (s.pop).ovfPw = s.ovfPw := rfl
@[simp] theorem State.pop_ovfUser : (s.pop).ovfUser = s.ovfUser := rfl
@[simp] theorem State.pop_ovfDom : (s.pop).ovfDom = s.ovfDom := rfl
@[simp] theorem State.pop_ovfData : (s.pop).ovfData = s.ovfData := rfl
@[simp] theorem State.pop_ovfCh : (s.pop).ovfCh = s.ovfCh := rfl
@[simp] theorem State.pop_offset : (s.pop).offset = s.offset := rfl
@[simp] theorem State.pop_cmd : (s.pop).cmd = s.cmd := rfl
@[simp] theorem State.pop_state : (s.pop).state = s.state := rfl
@[simp] theorem State.pop_err : (s.pop).err = s.err := rfl
@[simp] theorem State.pop_out : (s.pop).out = s.out := rfl
@[simp] theorem State.pop_outlen : (s.pop).outlen = s.outlen := rfl
@[simp] theorem State.pop_ie : (s.pop).ie = s.ie := rfl
@[simp] theorem State.pop_params : (s.pop).params = s.params := rfl
@[simp] theorem State.pop_pending : (s.pop).pending = s.pending.tail := rfl
@[simp] theorem State.pop_replies : (s.pop).replies = s.replies := rfl
@[simp] theorem State.pop_resetIn : (s.pop).resetIn = s.resetIn := rfl
@[simp] theorem State.pop_delay : (s.pop).delay = s.delay := rfl
@[simp] theorem State.pop_draw : (s.pop).draw = s.draw := rfl

end Sys2Proof.Machine
end

