-- ==== Sys2Proof/Laws/Ops.lean ====
section
/-! SUPPORT. Laws/Ops.lean: for each shared operation, once, everything it can do. -/

namespace Sys2Proof.Machine

variable {s t : State}

/-- R93, R268: a completion either delivers the bytes or is the error entry. -/
theorem State.finish_cases (r : CmdOutcome) (s : State) :
    (∃ b, r = .ok b ∧ s.finish r = s.deliver b) ∨ (∃ e, r = .fail e ∧ s.finish r = s.errorEntry e) := by
  cases r with
  | ok b => exact .inl ⟨b, rfl, rfl⟩
  | fail e => exact .inr ⟨e, rfl, rfl⟩

/-- R93: while `BUSY`, the completion step finishes the command. -/
theorem State.complete_of_busy (r : CmdOutcome) (h : s.state = .busy) :
    s.complete r = .next (s.finish r) := by simp [State.complete, h]

/-- R23: outside `BUSY` there is no completion step. -/
theorem State.complete_of_not_busy (r : CmdOutcome) (h : s.state ≠ .busy) :
    s.complete r = .next s := by simp [State.complete, h]

/-- Everything a completion can do. -/
theorem State.complete_next {r : CmdOutcome} (h : s.complete r = .next t) :
    (s.state = .busy ∧ t = s.finish r) ∨ (s.state ≠ .busy ∧ t = s) := by
  unfold State.complete at h
  split at h <;> cases h
  · exact .inl ⟨‹_›, rfl⟩
  · exact .inr ⟨‹_›, rfl⟩

/-- R69: while `BUSY`, an access is held. -/
theorem State.access_of_busy (i : Instr) (k : State → State) (h : s.state = .busy) :
    s.access i k = .next (s.hold (encodeBus i)) := by simp [State.access, h]

/-- R69: in every other state it is accepted at once. -/
theorem State.access_of_not_busy (i : Instr) (k : State → State) (h : s.state ≠ .busy) :
    s.access i k = .next (k s) := by simp [State.access, h]

/-- Everything an access other than a read of `STATUS` can do. -/
theorem State.access_next {i : Instr} {k : State → State} (h : s.access i k = .next t) :
    (s.state = .busy ∧ t = s.hold (encodeBus i)) ∨ (s.state ≠ .busy ∧ t = k s) := by
  unfold State.access at h
  split at h <;> cases h
  · exact .inl ⟨‹_›, rfl⟩
  · exact .inr ⟨‹_›, rfl⟩

/-- R238: everything an acknowledge can do. -/
theorem State.acknowledge_cases (s : State) :
    ((s.state = .done ∨ s.state = .error) ∧ s.acknowledge = s.withoutResult .idle)
      ∨ (s.state ≠ .done ∧ s.state ≠ .error ∧ s.acknowledge = s) := by
  unfold State.acknowledge
  split
  · exact .inl ⟨‹_›, rfl⟩
  · obtain ⟨hd, he⟩ := not_or.mp ‹_›
    exact .inr ⟨hd, he, rfl⟩

/-- R244: a property that each of the eight actions keeps is kept by every write of `CTRL`. -/
theorem State.control_keeps (P : State → Prop) (m : Word)
    (pw : ∀ u, P u → P u.clearPw) (user : ∀ u, P u → P u.clearUser) (dom : ∀ u, P u → P u.clearDom)
    (data : ∀ u, P u → P u.clearData) (ch : ∀ u, P u → P u.clearCh) (ack : ∀ u, P u → P u.acknowledge)
    (setUser : ∀ u, P u → P u.setUser) (setDom : ∀ u, P u → P u.setDom) (h : P s) :
    P (s.control m) := by
  have each : ∀ (l : List (Nat × (State → State))), (∀ a ∈ l, ∀ u, P u → P (a.2 u)) →
      ∀ u, P u → P (l.foldl (fun t a => if m.getLsbD a.1 then a.2 t else t) u) := by
    intro l
    induction l with
    | nil => exact fun _ _ hu => hu
    | cons a l ih =>
      intro hl u hu
      refine ih (fun b hb => hl b (List.mem_cons_of_mem _ hb)) _ ?_
      dsimp only
      split
      · exact hl a List.mem_cons_self u hu
      · exact hu
  refine each ctrlActions ?_ s h
  simp only [ctrlActions, List.forall_mem_cons, List.not_mem_nil, false_implies, implies_true, and_true]
  exact ⟨pw, user, dom, data, ch, ack, setUser, setDom⟩

/-- R6: which of its events the next step is, with what each needs. -/
theorem State.nextEvent_cases (s : State) :
    (s.resetIn.head? = some true ∧ s.nextEvent = .reset)
      ∨ (s.resetIn.head? ≠ some true ∧ s.state = .busy ∧ s.delay = 0 ∧ s.nextEvent = .complete s.cmd)
      ∨ (∃ a rest, s.resetIn.head? ≠ some true ∧ ¬(s.state = .busy ∧ s.delay = 0)
          ∧ s.pending = a :: rest ∧ s.nextEvent = .access a)
      ∨ (s.resetIn.head? ≠ some true ∧ s.state = .busy ∧ s.delay ≠ 0 ∧ s.pending = []
          ∧ s.nextEvent = .wait)
      ∨ (s.resetIn.head? ≠ some true ∧ s.state ≠ .busy ∧ s.pending = [] ∧ s.nextEvent = .rest) := by
  by_cases hr : s.resetIn.head? = some true
  · exact .inl ⟨hr, by simp [State.nextEvent, hr]⟩
  by_cases hc : s.state = .busy ∧ s.delay = 0
  · exact .inr (.inl ⟨hr, hc.1, hc.2, by simp [State.nextEvent, hr, hc]⟩)
  cases hp : s.pending with
  | cons a rest => exact .inr (.inr (.inl ⟨a, rest, hr, hc, rfl, by simp [State.nextEvent, hr, hc, hp]⟩))
  | nil =>
    by_cases hb : s.state = .busy
    · have hd : s.delay ≠ 0 := fun h => hc ⟨hb, h⟩
      exact .inr (.inr (.inr (.inl ⟨hr, hb, hd, rfl, by simp [State.nextEvent, hr, hd, hp, hb]⟩)))
    · exact .inr (.inr (.inr (.inr ⟨hr, hb, rfl, by simp [State.nextEvent, hr, hp, hb]⟩)))

end Sys2Proof.Machine
end

