-- ==== Sys2Proof/Laws/Exec.lean ====
section
/-! SUPPORT. Laws/Exec.lean: an instruction as one of three shapes: a command's completion, an access that
`BUSY` holds, the read of `STATUS`; and everything a step can do. -/

namespace Sys2Proof.Machine

variable {s t : State}

/-- The outcome of `EXEC` (R98) for each command; for an access, which evaluates nothing, a failure. -/
def evalOf (i : Instr) (s : State) : CmdOutcome :=
  match i with
  | .keyexp => evalKeyexp s
  | .desenc => evalDesenc s
  | .p16 => evalP16 s
  | .p24pw => evalP24pw s
  | .p24p21 => evalP24p21 s
  | .md4 => evalMd4 s
  | .responseLanman => evalResponseLanman s
  | .responseNtlm1 => evalResponseNtlm1 s
  | .responseNtlm2 => evalResponseNtlm2 s
  | .responseMd4Raw => evalResponseMd4Raw s
  | .avail => evalAvail s
  | .wrCmd _ | .wrCtrl _ | .wrIen _ | .wrPwPush _ | .wrUserPush _ | .wrDomPush _ => .fail .preconditionViolation
  | .wrDataPush _ | .wrChPush _ | .wrOffset _ | .wrNoEffect _ _ | .rdReadsZero _ => .fail .preconditionViolation
  | .rdCmd | .rdStatus | .rdIen | .rdOffset => .fail .preconditionViolation
  | .rdPwlen | .rdUserlen | .rdDomlen | .rdDatalen | .rdChlen => .fail .preconditionViolation
  | .rdOut0 | .rdOut1 | .rdOut2 | .rdOut3 | .rdOut4 | .rdOut5 => .fail .preconditionViolation

/-- The effect of an accepted access; for a command, which is no access, none. -/
def effectOf (i : Instr) : State → State :=
  match i with
  | .keyexp | .desenc | .p16 | .p24pw | .p24p21 | .md4 => fun u => u
  | .responseLanman | .responseNtlm1 | .responseNtlm2 | .responseMd4Raw | .avail => fun u => u
  | .wrCmd w => State.start w
  | .wrCtrl m => State.control m
  | .wrIen v => fun u => { u with ie := v.getLsbD 0 }
  | .wrPwPush v => State.pushPw v
  | .wrUserPush v => State.pushUser v
  | .wrDomPush v => State.pushDom v
  | .wrDataPush v => State.pushData v
  | .wrChPush v => State.pushCh v
  | .wrOffset v => fun u => { u with offset := v.extractLsb' 0 16 }
  | .rdCmd => State.readRegister 0x00
  | .rdStatus => State.readRegister 0x04
  | .rdIen => State.readRegister 0x0C
  | .rdOffset => State.readRegister 0x24
  | .rdPwlen => State.readRegister 0x28
  | .rdUserlen => State.readRegister 0x2C
  | .rdDomlen => State.readRegister 0x30
  | .rdDatalen => State.readRegister 0x34
  | .rdChlen => State.readRegister 0x38
  | .rdOut0 => State.readRegister 0x40
  | .rdOut1 => State.readRegister 0x44
  | .rdOut2 => State.readRegister 0x48
  | .rdOut3 => State.readRegister 0x4C
  | .rdOut4 => State.readRegister 0x50
  | .rdOut5 => State.readRegister 0x54
  | .wrNoEffect _ _ => fun u => u
  | .rdReadsZero _ => State.reply 0

/-- Every instruction is of one of three shapes. -/
theorem exec_shape (i : Instr) (s : State) :
    (isCommand i = true ∧ exec i s = s.complete (evalOf i s))
      ∨ (isCommand i = false ∧ i ≠ .rdStatus ∧ exec i s = s.access i (effectOf i))
      ∨ (i = .rdStatus ∧ exec i s = .next (effectOf i s)) := by
  cases i <;> first
    | exact .inl ⟨rfl, rfl⟩
    | exact .inr (.inl ⟨rfl, by simp, rfl⟩)
    | exact .inr (.inr ⟨rfl, rfl⟩)

/-- R260, R296: every instruction answers a next state, in every state. -/
theorem exec_is_next (i : Instr) (s : State) : ∃ t, exec i s = .next t := by
  rcases exec_shape i s with ⟨-, h⟩ | ⟨-, -, h⟩ | ⟨-, h⟩
  · rw [h]
    unfold State.complete
    split <;> exact ⟨_, rfl⟩
  · rw [h]
    unfold State.access
    split <;> exact ⟨_, rfl⟩
  · exact ⟨_, h⟩

/-- Everything a step that answers a next state can do: apply reset, complete a legal or an illegal command
word, run the host's next access, or let time pass. -/
theorem step_next (h : step s = .next t) :
    (s.resetIn.head? = some true ∧ t = s.applyReset)
      ∨ (s.state = .busy ∧ s.delay = 0 ∧ ∃ i, decodeCommand s.cmd = .ok i ∧ exec i s.tick = .next t)
      ∨ (s.state = .busy ∧ s.delay = 0 ∧ (∃ e, decodeCommand s.cmd = .error e)
          ∧ t = s.tick.errorEntry .preconditionViolation)
      ∨ (∃ a rest i, s.pending = a :: rest ∧ ¬(s.state = .busy ∧ s.delay = 0)
          ∧ decodeAccess a = .ok i ∧ exec i s.tick.pop = .next t)
      ∨ (s.pending = [] ∧ ¬(s.state = .busy ∧ s.delay = 0) ∧ t = s.tick) := by
  rcases s.nextEvent_cases with ⟨hr, he⟩ | ⟨-, hb, hd, he⟩ | ⟨a, rest, -, hc, hp, he⟩ | ⟨-, -, hd, hp, he⟩
    | ⟨-, hb, hp, he⟩
  · simp only [step, he] at h
    cases h
    exact .inl ⟨hr, rfl⟩
  · simp only [step, he] at h
    cases hd' : decodeCommand s.cmd with
    | ok i =>
      rw [hd'] at h
      exact .inr (.inl ⟨hb, hd, i, rfl, h⟩)
    | error e =>
      rw [hd'] at h
      simp only [State.completeIllegal, State.complete, State.tick_state, hb, if_true] at h
      cases h
      exact .inr (.inr (.inl ⟨hb, hd, ⟨e, rfl⟩, rfl⟩))
  · simp only [step, he] at h
    cases hd' : decodeAccess a with
    | ok i =>
      rw [hd'] at h
      exact .inr (.inr (.inr (.inl ⟨a, rest, i, hp, hc, hd', h⟩)))
    | error e =>
      rw [hd'] at h
      cases h
  · simp only [step, he] at h
    cases h
    exact .inr (.inr (.inr (.inr ⟨hp, fun hc => hd hc.2, rfl⟩)))
  · simp only [step, he] at h
    cases h
    exact .inr (.inr (.inr (.inr ⟨hp, fun hc => hb hc.1, rfl⟩)))

end Sys2Proof.Machine
end

