-- ==== Sys2Proof/Laws/PerInstr.lean ====
section
/-! SUPPORT. Laws/PerInstr.lean: statements made for all instructions, one lemma for each constructor. -/

namespace Sys2Proof.Laws

/-- R62, R63, R102: the access that an instruction is, or that starts the command it is, is one the
interface defines: width 4, aligned, inside the window. -/
def AccessIsDefined.Statement (i : Instr) : Prop := i.wellFormed = true → (encodeBus i).wellFormed = true

/-- `MemWrite` at an aligned offset of the window is an access the interface defines (R62). -/
theorem writeAt_wellFormed (off : Offset) (v : Word) (aligned : off.toNat % 4 = 0) :
    (writeAt off v).wellFormed = true := by
  have inside : off.toNat < 128 := off.isLt
  simp [BusAccess.wellFormed, writeAt, aligned, inside]

/-- `MemRead` at an aligned offset of the window is an access the interface defines (R62). -/
theorem readAt_wellFormed (off : Offset) (aligned : off.toNat % 4 = 0) :
    (readAt off).wellFormed = true := by
  have inside : off.toNat < 128 := off.isLt
  simp [BusAccess.wellFormed, readAt, aligned, inside]

theorem AccessIsDefined.keyexp : AccessIsDefined.Statement .keyexp := fun _ => rfl
theorem AccessIsDefined.desenc : AccessIsDefined.Statement .desenc := fun _ => rfl
theorem AccessIsDefined.p16 : AccessIsDefined.Statement .p16 := fun _ => rfl
theorem AccessIsDefined.p24pw : AccessIsDefined.Statement .p24pw := fun _ => rfl
theorem AccessIsDefined.p24p21 : AccessIsDefined.Statement .p24p21 := fun _ => rfl
theorem AccessIsDefined.md4 : AccessIsDefined.Statement .md4 := fun _ => rfl
theorem AccessIsDefined.responseLanman : AccessIsDefined.Statement .responseLanman := fun _ => rfl
theorem AccessIsDefined.responseNtlm1 : AccessIsDefined.Statement .responseNtlm1 := fun _ => rfl
theorem AccessIsDefined.responseNtlm2 : AccessIsDefined.Statement .responseNtlm2 := fun _ => rfl
theorem AccessIsDefined.responseMd4Raw : AccessIsDefined.Statement .responseMd4Raw := fun _ => rfl
theorem AccessIsDefined.avail : AccessIsDefined.Statement .avail := fun _ => rfl
theorem AccessIsDefined.rdCmd : AccessIsDefined.Statement .rdCmd := fun _ => rfl
theorem AccessIsDefined.rdStatus : AccessIsDefined.Statement .rdStatus := fun _ => rfl
theorem AccessIsDefined.rdIen : AccessIsDefined.Statement .rdIen := fun _ => rfl
theorem AccessIsDefined.rdOffset : AccessIsDefined.Statement .rdOffset := fun _ => rfl
theorem AccessIsDefined.rdPwlen : AccessIsDefined.Statement .rdPwlen := fun _ => rfl
theorem AccessIsDefined.rdUserlen : AccessIsDefined.Statement .rdUserlen := fun _ => rfl
theorem AccessIsDefined.rdDomlen : AccessIsDefined.Statement .rdDomlen := fun _ => rfl
theorem AccessIsDefined.rdDatalen : AccessIsDefined.Statement .rdDatalen := fun _ => rfl
theorem AccessIsDefined.rdChlen : AccessIsDefined.Statement .rdChlen := fun _ => rfl
theorem AccessIsDefined.rdOut0 : AccessIsDefined.Statement .rdOut0 := fun _ => rfl
theorem AccessIsDefined.rdOut1 : AccessIsDefined.Statement .rdOut1 := fun _ => rfl
theorem AccessIsDefined.rdOut2 : AccessIsDefined.Statement .rdOut2 := fun _ => rfl
theorem AccessIsDefined.rdOut3 : AccessIsDefined.Statement .rdOut3 := fun _ => rfl
theorem AccessIsDefined.rdOut4 : AccessIsDefined.Statement .rdOut4 := fun _ => rfl
theorem AccessIsDefined.rdOut5 : AccessIsDefined.Statement .rdOut5 := fun _ => rfl
theorem AccessIsDefined.wrCmd (v : Word) : AccessIsDefined.Statement (.wrCmd v) :=
  fun _ => writeAt_wellFormed _ v rfl
theorem AccessIsDefined.wrCtrl (v : Word) : AccessIsDefined.Statement (.wrCtrl v) :=
  fun _ => writeAt_wellFormed _ v rfl
theorem AccessIsDefined.wrIen (v : Word) : AccessIsDefined.Statement (.wrIen v) :=
  fun _ => writeAt_wellFormed _ v rfl
theorem AccessIsDefined.wrPwPush (v : Word) : AccessIsDefined.Statement (.wrPwPush v) :=
  fun _ => writeAt_wellFormed _ v rfl
theorem AccessIsDefined.wrUserPush (v : Word) : AccessIsDefined.Statement (.wrUserPush v) :=
  fun _ => writeAt_wellFormed _ v rfl
theorem AccessIsDefined.wrDomPush (v : Word) : AccessIsDefined.Statement (.wrDomPush v) :=
  fun _ => writeAt_wellFormed _ v rfl
theorem AccessIsDefined.wrDataPush (v : Word) : AccessIsDefined.Statement (.wrDataPush v) :=
  fun _ => writeAt_wellFormed _ v rfl
theorem AccessIsDefined.wrChPush (v : Word) : AccessIsDefined.Statement (.wrChPush v) :=
  fun _ => writeAt_wellFormed _ v rfl
theorem AccessIsDefined.wrOffset (v : Word) : AccessIsDefined.Statement (.wrOffset v) :=
  fun _ => writeAt_wellFormed _ v rfl

/-- Every offset of the two default rows is a multiple of 4. -/
theorem noEffectOffsets_aligned : ∀ off ∈ noEffectOffsets, off.toNat % 4 = 0 := by decide

theorem readsZeroOffsets_aligned : ∀ off ∈ readsZeroOffsets, off.toNat % 4 = 0 := by decide

theorem AccessIsDefined.wrNoEffect (off : Offset) (v : Word) :
    AccessIsDefined.Statement (.wrNoEffect off v) := by
  intro h
  exact writeAt_wellFormed off v (noEffectOffsets_aligned off (by simpa [Instr.wellFormed] using h))

theorem AccessIsDefined.rdReadsZero (off : Offset) : AccessIsDefined.Statement (.rdReadsZero off) := by
  intro h
  exact readAt_wellFormed off (readsZeroOffsets_aligned off (by simpa [Instr.wellFormed] using h))

end Sys2Proof.Laws
end

