-- ==== Sys2Proof/Tests/Slice0.lean ====
section
/-! SUPPORT. Tests/Slice0.lean: the model's own tests. Expected values are the spec's: its encodings
(`30_encoding.md` R95, `20_memory.md` R61), its vectors (`95_test_vectors.md` V<n>.<m>), its rules' worked
examples. At the end, for each statement with hypotheses, states and operands that meet them. -/

namespace Sys2Proof.Tests

open Sys2Proof.Machine

/-! ### Helpers -/

/-- The outcome is a next state with the property. -/
def nextHas (x : Host.Outcome State Fault Refusal) (p : State → Bool) : Bool :=
  match x with
  | .next t => p t
  | .fault _ => false
  | .refused _ => false

/-- The outcome is this refusal. -/
def refusedAs (x : Host.Outcome State Fault Refusal) (r : Refusal) : Bool :=
  match x with
  | .next _ => false
  | .fault _ => false
  | .refused q => q == r

/-- The next state delivers these bytes and its `STATUS` reads so. -/
def delivers (bytes : List Byte) (status : Word) (t : State) : Bool :=
  t.out.toList == bytes ++ List.replicate (24 - bytes.length) 0 && t.statusWord == status

/-- The next state has told the host this one word. -/
def tells (v : Word) (t : State) : Bool := t.replies == [v]

/-- `BYTES CH, KGS`. -/
def kgsBytes : List Byte := [0x4B, 0x47, 0x53, 0x21, 0x40, 0x23, 0x24, 0x25]

/-- The challenge `CH1` of the vectors. -/
def ch1 : List Byte := [0x01, 0x23, 0x45, 0x67, 0x89, 0xAB, 0xCD, 0xEF]

/-- `"password"`. -/
def lowerPassword : Text := [0x70, 0x61, 0x73, 0x73, 0x77, 0x6F, 0x72, 0x64]

/-- `"Password"`. -/
def mixedPassword : Text := [0x50, 0x61, 0x73, 0x73, 0x77, 0x6F, 0x72, 0x64]

/-- Reset state with operands. -/
def withOperands (pw : Text) (data ch : List Byte) : State := { State.reset with pw := pw, data := data, ch := ch }

/-- A command running with `n` steps to go. -/
def running (n : Nat) (s : State) : State := { s with state := .busy, delay := n }

/-- The reset state with the host about to issue the instruction's access. -/
def issuing (i : Instr) : State := { State.reset with pending := [encodeBus i] }

/-! ### WellFormed: each check refuses an ill-formed term -/

theorem test_wellFormed_width : (BusAccess.mk .read 2 0x04 0).wellFormed = false := by decide
theorem test_wellFormed_alignment : (BusAccess.mk .write 4 0x02 0).wellFormed = false := by decide
theorem test_wellFormed_window : (BusAccess.mk .write 4 0x80 0).wellFormed = false := by decide
theorem test_wellFormed_last_offset : (BusAccess.mk .write 4 0x7C 0).wellFormed = true := by decide
theorem test_wellFormed_noEffect : (Instr.wrNoEffect 0x10 0).wellFormed = false := by decide
theorem test_wellFormed_readsZero : (Instr.rdReadsZero 0x28).wellFormed = false := by decide

/-! ### Decode: every constructor from a word or triple written out from R95, R61, R99 -/

theorem test_decode_keyexp : decode (.cmdw 0b0000000000000000000000000_000_0001) = .ok .keyexp := by decide
theorem test_decode_desenc : decode (.cmdw 0b0000000000000000000000000_000_0010) = .ok .desenc := by decide
theorem test_decode_p16 : decode (.cmdw 0b0000000000000000000000000_000_0011) = .ok .p16 := by decide
theorem test_decode_p24pw : decode (.cmdw 0b0000000000000000000000000_000_0100) = .ok .p24pw := by decide
theorem test_decode_p24p21 : decode (.cmdw 0b0000000000000000000000000_000_0101) = .ok .p24p21 := by decide
theorem test_decode_md4 : decode (.cmdw 0b0000000000000000000000000_000_0110) = .ok .md4 := by decide
theorem test_decode_responseLanman : decode (.cmdw 0b0000000000000000000000000_001_0111) = .ok .responseLanman := by decide
theorem test_decode_responseNtlm1 : decode (.cmdw 0b0000000000000000000000000_010_0111) = .ok .responseNtlm1 := by decide
theorem test_decode_responseNtlm2 : decode (.cmdw 0b0000000000000000000000000_011_0111) = .ok .responseNtlm2 := by decide
theorem test_decode_responseMd4Raw : decode (.cmdw 0b0000000000000000000000000_100_0111) = .ok .responseMd4Raw := by decide
theorem test_decode_avail : decode (.cmdw 0b0000000000000000000000000_000_1000) = .ok .avail := by decide
theorem test_decode_wrCmd : decode (.bus ⟨.write, 4, 0x00, 0xABCD1234⟩) = .ok (.wrCmd 0xABCD1234) := by
  decide
theorem test_decode_wrCtrl : decode (.bus ⟨.write, 4, 0x08, 0xABCD1234⟩) = .ok (.wrCtrl 0xABCD1234) := by
  decide
theorem test_decode_wrIen : decode (.bus ⟨.write, 4, 0x0C, 0xABCD1234⟩) = .ok (.wrIen 0xABCD1234) := by
  decide
theorem test_decode_wrPwPush : decode (.bus ⟨.write, 4, 0x10, 0xABCD1234⟩) = .ok (.wrPwPush 0xABCD1234) := by
  decide
theorem test_decode_wrUserPush : decode (.bus ⟨.write, 4, 0x14, 0xABCD1234⟩) = .ok (.wrUserPush 0xABCD1234) := by
  decide
theorem test_decode_wrDomPush : decode (.bus ⟨.write, 4, 0x18, 0xABCD1234⟩) = .ok (.wrDomPush 0xABCD1234) := by
  decide
theorem test_decode_wrDataPush : decode (.bus ⟨.write, 4, 0x1C, 0xABCD1234⟩) = .ok (.wrDataPush 0xABCD1234) := by
  decide
theorem test_decode_wrChPush : decode (.bus ⟨.write, 4, 0x20, 0xABCD1234⟩) = .ok (.wrChPush 0xABCD1234) := by
  decide
theorem test_decode_wrOffset : decode (.bus ⟨.write, 4, 0x24, 0xABCD1234⟩) = .ok (.wrOffset 0xABCD1234) := by
  decide
theorem test_decode_rdCmd : decode (.bus ⟨.read, 4, 0x00, 0⟩) = .ok .rdCmd := by decide
theorem test_decode_rdStatus : decode (.bus ⟨.read, 4, 0x04, 0⟩) = .ok .rdStatus := by decide
theorem test_decode_rdIen : decode (.bus ⟨.read, 4, 0x0C, 0⟩) = .ok .rdIen := by decide
theorem test_decode_rdOffset : decode (.bus ⟨.read, 4, 0x24, 0⟩) = .ok .rdOffset := by decide
theorem test_decode_rdPwlen : decode (.bus ⟨.read, 4, 0x28, 0⟩) = .ok .rdPwlen := by decide
theorem test_decode_rdUserlen : decode (.bus ⟨.read, 4, 0x2C, 0⟩) = .ok .rdUserlen := by decide
theorem test_decode_rdDomlen : decode (.bus ⟨.read, 4, 0x30, 0⟩) = .ok .rdDomlen := by decide
theorem test_decode_rdDatalen : decode (.bus ⟨.read, 4, 0x34, 0⟩) = .ok .rdDatalen := by decide
theorem test_decode_rdChlen : decode (.bus ⟨.read, 4, 0x38, 0⟩) = .ok .rdChlen := by decide
theorem test_decode_rdOut0 : decode (.bus ⟨.read, 4, 0x40, 0⟩) = .ok .rdOut0 := by decide
theorem test_decode_rdOut1 : decode (.bus ⟨.read, 4, 0x44, 0⟩) = .ok .rdOut1 := by decide
theorem test_decode_rdOut2 : decode (.bus ⟨.read, 4, 0x48, 0⟩) = .ok .rdOut2 := by decide
theorem test_decode_rdOut3 : decode (.bus ⟨.read, 4, 0x4C, 0⟩) = .ok .rdOut3 := by decide
theorem test_decode_rdOut4 : decode (.bus ⟨.read, 4, 0x50, 0⟩) = .ok .rdOut4 := by decide
theorem test_decode_rdOut5 : decode (.bus ⟨.read, 4, 0x54, 0⟩) = .ok .rdOut5 := by decide
theorem test_decode_wrNoEffect : decode (.bus ⟨.write, 4, 0x04, 0xFFFFFFFF⟩) = .ok (.wrNoEffect 0x04 0xFFFFFFFF) := by
  decide
theorem test_decode_rdReadsZero : decode (.bus ⟨.read, 4, 0x3C, 0⟩) = .ok (.rdReadsZero 0x3C) := by decide

/-- V8.3 to V8.14: the illegal words, each of its case of R97. -/
theorem test_decode_illegal :
    [0x00000000, 0x00000009, 0x0000000F, 0x00000007, 0x00000057, 0x00000067, 0x00000077, 0x00000011,
      0x00000018, 0x00000080, 0x80000003, 0x00000103].map decodeCommand
    = [.error .reservedOp, .error .reservedOp, .error .reservedOp, .error .unknownVariant,
       .error .unknownVariant, .error .unknownVariant, .error .unknownVariant, .error .strayVariant,
       .error .strayVariant, .error .reservedBits, .error .reservedBits, .error .reservedBits] := by decide

/-- R63, R60: the first offset outside the window, a misaligned one and a byte access. -/
theorem test_decode_outside :
    [⟨.read, 4, 0x80, 0⟩, ⟨.write, 4, 0x41, 0⟩, ⟨.write, 1, 0x10, 0⟩].map decodeAccess
    = [.error (.outsideWindow 0x80), .error (.misaligned 0x41), .error (.accessWidth 1)] := by decide

/-- The opcode table's numbering: a command word, and `PW_PUSH` (offset in bits 6:0). -/
theorem test_decodeTableWord :
    decodeTableWord 32 0x47 = some .responseMd4Raw ∧ decodeTableWord 8 0x10 = some (.wrPwPush 0)
      ∧ decodeTableWord 8 0x54 = some .rdOut5 ∧ decodeTableWord 32 0 = none := by decide

/-! ### The commands, each one completion step (vectors of `95_test_vectors.md`) -/

/-- V2.5. -/
theorem test_keyexp_vector : nextHas (step ({ withOperands [] [0x01, 0x02, 0x03, 0x04, 0x05, 0x06, 0x07] [] with offset := 0 }.withCommand 0x00000001))
    (delivers [0x00, 0x80, 0x80, 0x60, 0x40, 0x28, 0x18, 0x0E] 0x00000082) = true := by
  decide +kernel

/-- V2.16: `OFFSET` 15 in 21 bytes. -/
theorem test_keyexp_too_short : nextHas (step ({ withOperands [] [0x10, 0x11, 0x12, 0x13, 0x14, 0x15, 0x16, 0x17, 0x18, 0x19, 0x1A, 0x1B, 0x1C, 0x1D, 0x1E, 0x1F, 0x20, 0x21, 0x22, 0x23, 0x24] [] with offset := 15 }.withCommand 0x00000001))
    (delivers [] 0x0000000F) = true := by
  decide +kernel

/-- V3.1. -/
theorem test_desenc_vector : nextHas (step ((withOperands [] [0x13, 0x34, 0x57, 0x79, 0x9B, 0xBC, 0xDF, 0xF1] ch1).withCommand 0x00000002))
    (delivers [0x85, 0xE8, 0x13, 0x54, 0x0F, 0x0A, 0xB4, 0x05] 0x00000082) = true := by
  decide +kernel

/-- V3.11: a key of 7 bytes. -/
theorem test_desenc_invalid_key : nextHas (step ((withOperands [] [0x44, 0x00, 0x00, 0x00, 0x00, 0x00, 0x00] kgsBytes).withCommand 0x00000002))
    (delivers [] 0x0000000B) = true := by
  decide +kernel

/-- V1.1, the source's own known answer. -/
theorem test_p16_vector : nextHas (step ((withOperands lowerPassword [] kgsBytes).withCommand 0x00000003))
    (delivers [0xE5, 0x2C, 0xAC, 0x67, 0x41, 0x9A, 0x9A, 0x22, 0x4A, 0x3B, 0x10, 0x8F, 0x3F, 0xA6, 0xCB, 0x6D] 0x00000102) = true := by
  decide +kernel

/-- V8.15: `CH` empty. -/
theorem test_p16_no_seed : nextHas (step (State.reset.withCommand 0x00000003))
    (delivers [] 0x0000000F) = true := by
  decide +kernel

/-- V4.21. -/
theorem test_p24pw_vector : nextHas (step ((withOperands lowerPassword [] ch1).withCommand 0x00000004))
    (delivers [0x98, 0xDE, 0xF7, 0xB8, 0x7F, 0x88, 0xAA, 0x5D, 0xAF, 0xE2, 0xDF, 0x77, 0x96, 0x88, 0xA1, 0x72, 0xDE, 0xF1, 0x1C, 0x7D, 0x5C, 0xCD, 0xEF, 0x13] 0x00000182) = true := by
  decide +kernel

/-- V4.17. -/
theorem test_p24p21_vector : nextHas (step ((withOperands [] [0x10, 0x11, 0x12, 0x13, 0x14, 0x15, 0x16, 0x17, 0x18, 0x19, 0x1A, 0x1B, 0x1C, 0x1D, 0x1E, 0x1F, 0x20, 0x21, 0x22, 0x23, 0x24]
      ch1).withCommand 0x00000005))
    (delivers [0x8B, 0xCB, 0x6D, 0x89, 0x84, 0xEC, 0x09, 0x66, 0xC9, 0xD5, 0x58, 0xC4, 0xC8, 0x22, 0x1F, 0x71, 0xF9, 0x6A, 0x4C, 0x27, 0x28, 0x16, 0x45, 0x21] 0x00000182) = true := by
  decide +kernel

/-- V4.23: 16 bytes are not zero-extended. -/
theorem test_p24p21_bare_hash : nextHas (step ((withOperands [] (List.replicate 16 0) ch1).withCommand 0x00000005))
    (delivers [] 0x0000000F) = true := by
  decide +kernel

/-- V5.10: `"abc"`. -/
theorem test_md4_vector : nextHas (step ((withOperands [] [0x61, 0x62, 0x63] []).withCommand 0x00000006))
    (delivers [0xA4, 0x48, 0x01, 0x7A, 0xAF, 0x21, 0xD8, 0x52, 0x5F, 0xC1, 0x0A, 0xE8, 0x7A, 0xA6, 0x72, 0x9D] 0x00000102) = true := by
  decide +kernel

/-- V5.16: 56 zero bytes pad to two blocks. -/
theorem test_md4_two_blocks : nextHas (step ((withOperands [] (List.replicate 56 0) []).withCommand 0x00000006))
    (delivers [0x7B, 0x9B, 0x45, 0x93, 0xCD, 0x93, 0x22, 0xEA, 0x49, 0x2C, 0xF0, 0xBC, 0xDD, 0x84, 0xF0, 0xAE] 0x00000102) = true := by
  decide +kernel

/-- R166: `RESPONSE.LANMAN` gives the result of `P24PW` on the same operands. -/
theorem test_lanman_is_p24pw (s : State) : execResponseLanman s = execP24pw s := rfl

/-- R175: a challenge of 9 bytes. -/
theorem test_lanman_long_challenge : nextHas (step ((withOperands lowerPassword [] (0x00 :: ch1)).withCommand 0x00000017))
    (delivers [] 0x0000000F) = true := by
  decide +kernel

/-- V6.2. -/
theorem test_ntlm1_vector : nextHas (step ((withOperands mixedPassword [] ch1).withCommand 0x00000027))
    (delivers [0x67, 0xC4, 0x30, 0x11, 0xF3, 0x02, 0x98, 0xA2, 0xAD, 0x35, 0xEC, 0xE6, 0x4F, 0x16, 0x33, 0x1C, 0x44, 0xBD, 0xBE, 0xD9, 0x27, 0x84, 0x1F, 0x94] 0x00000182) = true := by
  decide +kernel

/-- V6.9: username `"UserD"`, domain `"omain"`, both present. -/
theorem test_ntlm2_vector : nextHas (step ({ withOperands mixedPassword [] ch1 with
      user := [0x55, 0x73, 0x65, 0x72, 0x44], dom := [0x6F, 0x6D, 0x61, 0x69, 0x6E],
      userV := true, domV := true }.withCommand 0x00000037))
    (delivers [0xF3, 0x8E, 0xFE, 0xA4, 0x8A, 0xDA, 0x6A, 0xFA, 0xA9, 0x5A, 0xE4, 0x46, 0x69, 0xE5, 0x63, 0x4B] 0x00000702) = true := by
  decide +kernel

/-- V6.26: no domain. -/
theorem test_ntlm2_no_domain : nextHas (step ({ withOperands mixedPassword [] ch1 with userV := true }.withCommand 0x00000037))
    (delivers [] 0x0000020F) = true := by
  decide +kernel

/-- V5.1. -/
theorem test_md4Raw_vector : nextHas (step ((withOperands lowerPassword [] ch1).withCommand 0x00000047))
    (delivers [0x88, 0x46, 0xF7, 0xEA, 0xEE, 0x8F, 0xB1, 0x17, 0xAD, 0x06, 0xBD, 0xD8, 0x30, 0xB7, 0x58, 0x6C] 0x00000102) = true := by
  decide +kernel

/-- V5.23: the challenge must be there though it is not used. -/
theorem test_md4Raw_no_challenge : nextHas (step ((withOperands lowerPassword [] []).withCommand 0x00000047))
    (delivers [] 0x0000000F) = true := by
  decide +kernel

/-- V8.2. -/
theorem test_avail_vector : nextHas (step (State.reset.withCommand 0x00000008))
    (delivers [0x01] 0x00000012) = true := by
  decide +kernel

/-- R182: with a unit absent it answers 0 and does not fail. -/
theorem test_avail_unit_missing : nextHas (step ({ State.reset with params := { Config.thisHardware with hasMd4 := false } }.withCommand 0x00000008))
    (delivers [0x00] 0x00000012) = true := by
  decide +kernel

/-- V8.13. -/
theorem test_illegal_word : nextHas (step (State.reset.withCommand 0x80000003))
    (delivers [] 0x0000000F) = true := by
  decide +kernel

/-- R262: an absent unit, before anything is looked at. -/
theorem test_ntlm1_without_des :
    nextHas (step ({ State.reset with params := { Config.thisHardware with hasDes := false } }.withCommand 0x27))
      (delivers [] 0x00000007) = true := by decide +kernel

/-- V7.3: MD5 of `"abc"`. -/
theorem test_md5_abc : (md5 [0x61, 0x62, 0x63]).toList = [0x90, 0x01, 0x50, 0x98, 0x3C, 0xD2, 0x4F, 0xB0, 0xD6, 0x96, 0x3F, 0x7D, 0x28, 0xE1, 0x7F, 0x72] := by
  decide +kernel

/-- V7.9: HMAC-MD5 with the key `"Jefe"`. -/
theorem test_hmac_jefe :
    (hmacMd5 [0x4A, 0x65, 0x66, 0x65]
      ([0x77, 0x68, 0x61, 0x74, 0x20, 0x64, 0x6F, 0x20, 0x79, 0x61, 0x20, 0x77, 0x61, 0x6E, 0x74]
        ++ [0x20, 0x66, 0x6F, 0x72, 0x20, 0x6E, 0x6F, 0x74, 0x68, 0x69, 0x6E, 0x67, 0x3F])).toList
      = [0x75, 0x0C, 0x78, 0x3E, 0x6A, 0xB0, 0xB5, 0x03, 0xEA, 0xA8, 0x6E, 0x31, 0x0A, 0x5D, 0xB7, 0x38] := by decide +kernel

/-- R173: a surrogate pair is two ordinary units (V5.6). -/
theorem test_utf16le : utf16le [0xD83D, 0xDE00] = [0x3D, 0xD8, 0x00, 0xDE] := by decide

/-- R171: letters only, the two ends of their range and their neighbours. -/
theorem test_upcase : upcase [0x60, 0x61, 0x7A, 0x7B, 0x31] = [0x60, 0x41, 0x5A, 0x7B, 0x31] := by decide

/-- D7: beside a unit of 0x0080 or above the length is kept and the letters are mapped. -/
theorem test_upcase_off_ascii :
    (upcase [0x61, 0xE9, 0x7A]).length = 3 ∧ (upcase [0x61, 0xE9, 0x7A]).getD 2 0 = 0x5A := by
  rcases upcase_cases [0x61, 0xE9, 0x7A] with ⟨-, h⟩ | ⟨-, h⟩ <;> rw [h] <;> exact ⟨rfl, rfl⟩

/-- R168: the case of an ASCII letter does not matter beside a unit of 0x0080 or above either. -/
theorem test_upcase_case_off_ascii : upcase [0x61, 0xE9] = upcase [0x41, 0xE9] := upcase_congr (by decide)

/-! ### The host's accesses, each one step from reset or from a state named -/

/-- V8.30. -/
theorem test_offset_masked : nextHas (step (issuing (.wrOffset 0x12345678))) (·.offset == 0x5678) = true := by decide

/-- V8.29: only bit 0 of `IEN` is used. -/
theorem test_ien_masked : nextHas (step (issuing (.wrIen 0xFFFFFFFE))) (·.ie == false) = true := by decide

/-- V8.31. -/
theorem test_pwPush_masked : nextHas (step (issuing (.wrPwPush 0xABCD1234))) (·.pw == [0x1234]) = true := by decide

/-- R231: a push declares a username. -/
theorem test_userPush : nextHas (step (issuing (.wrUserPush 0x55))) (fun t => t.user == [0x55] && t.statusWord == 0x200)
    = true := by decide

/-- V8.24. -/
theorem test_domPush : nextHas (step (issuing (.wrDomPush 0x44))) (fun t => t.dom == [0x44] && t.statusWord == 0x400)
    = true := by decide

/-- R231: at capacity the push sets the overflow flag, and the presence flag all the same. -/
theorem test_domPush_overflow :
    nextHas (step { issuing (.wrDomPush 0x44) with params := { Config.thisHardware with textMax := 0 } })
      (fun t => t.dom == [] && t.statusWord == 0x2400) = true := by decide

/-- R232, its example. -/
theorem test_dataPush : nextHas (step { issuing (.wrDataPush 0xFF63) with data := [0x61, 0x62] })
    (·.data == [0x61, 0x62, 0x63]) = true := by decide

/-- V8.19: the seventeenth push into `CH`. -/
theorem test_chPush_overflow : nextHas (step { issuing (.wrChPush 0x01) with ch := List.replicate 16 0 })
    (fun t => t.ch.length == 16 && t.statusWord == 0x8000) = true := by decide

/-- R233: the buffer does not stop at 8 bytes. -/
theorem test_chPush_ninth : nextHas (step { issuing (.wrChPush 0x01) with ch := List.replicate 8 0 })
    (fun t => t.ch.length == 9 && t.statusWord == 0) = true := by decide

/-- V8.26: clear, then set, in ascending order. -/
theorem test_ctrl_order :
    nextHas (step { issuing (.wrCtrl 0x42) with user := [0x55], userV := true, ovfUser := true })
      (fun t => t.user == [] && t.statusWord == 0x200) = true := by decide

/-- R238, its example: `ACK` in `DONE` with `OUTLEN` 16. -/
theorem test_ctrl_ack :
    nextHas (step { issuing (.wrCtrl 0x20) with state := .done, outlen := 16, out := Vector.replicate 24 1 })
      (fun t => t.statusWord == 0 && t.out == zeros 24 && t.state == .idle) = true := by decide

/-- R230, its example, from `DONE`: the result is discarded. -/
theorem test_wrCmd : nextHas (step { issuing (.wrCmd 6) with state := .done, outlen := 16 })
    (fun t => t.state == .busy && t.cmd == 6 && t.statusWord == 1) = true := by decide

/-- V8.35: a write while `BUSY` is held. -/
theorem test_held_write :
    nextHas (step (running 2 (issuing (.wrPwPush 0x31))))
      (fun t => t.pw == [] && t.pending == [encodeBus (.wrPwPush 0x31)] && t.delay == 1) = true := by decide

/-- V8.32: writes of read-only and unmapped offsets. -/
theorem test_wrNoEffect : nextHas (step (issuing (.wrNoEffect 0x40 0xFFFFFFFF)))
    (· == State.reset) = true := by decide

theorem test_rdReadsZero : nextHas (step { issuing (.rdReadsZero 0x10) with pw := lowerPassword }) (tells 0)
    = true := by decide

theorem test_rdCmd : nextHas (step { issuing .rdCmd with cmd := 0x80000003 }) (tells 0x80000003) = true := by decide

/-- V8.28: `DONE`, `OUTLEN` 1, interrupt enabled. -/
theorem test_rdStatus : nextHas (step { issuing .rdStatus with state := .done, outlen := 1, ie := true })
    (tells 0x00010012) = true := by decide

/-- R241: the read of `STATUS` is accepted while `BUSY`. -/
theorem test_rdStatus_busy : nextHas (step (running 5 (issuing .rdStatus))) (tells 0x00000001) = true := by decide

theorem test_rdIen : nextHas (step { issuing .rdIen with ie := true }) (tells 1) = true := by decide
theorem test_rdOffset : nextHas (step { issuing .rdOffset with offset := 0xFFFF }) (tells 0xFFFF) = true := by decide
theorem test_rdPwlen : nextHas (step { issuing .rdPwlen with pw := lowerPassword }) (tells 8) = true := by decide
theorem test_rdUserlen : nextHas (step { issuing .rdUserlen with user := [1, 2] }) (tells 2) = true := by decide
theorem test_rdDomlen : nextHas (step { issuing .rdDomlen with dom := [1, 2, 3] }) (tells 3) = true := by decide
theorem test_rdDatalen : nextHas (step { issuing .rdDatalen with data := [1] }) (tells 1) = true := by decide
theorem test_rdChlen : nextHas (step { issuing .rdChlen with ch := ch1 }) (tells 8) = true := by decide

/-- R243, its example: `DONE` after `P16` of `"password"`; the later words are of bytes 16 to 23. -/
def afterP16 : State :=
  { State.reset with state := .done, outlen := 16, out := fit 24 [0xE5, 0x2C, 0xAC, 0x67, 0x41, 0x9A, 0x9A, 0x22, 0x4A, 0x3B, 0x10, 0x8F, 0x3F, 0xA6, 0xCB, 0x6D] }

theorem test_rdOut0 : nextHas (step { afterP16 with pending := [encodeBus .rdOut0] }) (tells 0x67AC2CE5) = true := by
  decide
theorem test_rdOut1 : nextHas (step { afterP16 with pending := [encodeBus .rdOut1] }) (tells 0x229A9A41) = true := by
  decide
theorem test_rdOut2 : nextHas (step { afterP16 with pending := [encodeBus .rdOut2] }) (tells 0x8F103B4A) = true := by
  decide
theorem test_rdOut3 : nextHas (step { afterP16 with pending := [encodeBus .rdOut3] }) (tells 0x6DCBA63F) = true := by
  decide
theorem test_rdOut4 : nextHas (step { afterP16 with pending := [encodeBus .rdOut4] }) (tells 0) = true := by decide
theorem test_rdOut5 : nextHas (step { afterP16 with pending := [encodeBus .rdOut5] }) (tells 0) = true := by decide

/-- R290: reset while a command runs: abandoned, whatever it was about to deliver. -/
theorem test_reset_abandons :
    nextHas (step { running 0 (withOperands lowerPassword [] kgsBytes) with cmd := 3, resetIn := [true] })
      (fun t => t.state == .idle && t.out == zeros 24 && t.pw == [] && t.cmd == 0) = true := by decide

/-- R63: refused by name. -/
theorem test_refused :
    refusedAs (step { State.reset with pending := [⟨.write, 2, 0x10, 0⟩] }) (.accessWidth 2) = true := by decide

/-- The placing of a table word: the next step runs it. -/
theorem test_withFetchWord :
    nextHas (step (State.reset.withFetchWord 32 0x08)) (delivers [1] 0x12) = true
      ∧ nextHas (step (State.reset.withFetchWord 8 0x28)) (tells 0) = true := by decide +kernel

/-- R103: `TEXT USER, ""` declares an empty username; `OUT 16` is four reads. -/
theorem test_script :
    Script.text .user [] = [⟨.write, 4, 0x08, 0x40⟩] ∧ (Script.out 16).length = 4
      ∧ Script.clearAll = [⟨.write, 4, 0x08, 0x1F⟩] := by decide

/-! ### Witnesses: for each statement with hypotheses, a state and operands that meet them all together (for
each of its clauses, at the ends of the ranges)

The name of a witness is the name of its statement. -/

/-- A command at its completion step, over operands that every command takes: `DATA` of 21 bytes, `CH` of 8,
a password, a username and a domain. -/
def due : State :=
  { withOperands lowerPassword (List.replicate 21 0) ch1 with
    state := .busy, user := [0x55], userV := true, dom := [0x44], domV := true }

/-- The same without the three units. -/
def dueWithoutUnits : State :=
  { due with params := { Config.thisHardware with hasDes := false, hasMd4 := false, hasHmacMd5 := false } }

theorem witness_DecodeAfterEncode :
    (Instr.wrNoEffect 0x04 0).wellFormed = true ∧ (Instr.wrNoEffect 0x7C 0xFFFFFFFF).wellFormed = true
      ∧ (Instr.rdReadsZero 0x08).wellFormed = true ∧ (Instr.rdReadsZero 0x7C).wellFormed = true := by decide

theorem witness_EncodeAfterDecode :
    (decode (.cmdw 8) = .ok .avail)
      ∧ decode (.bus ⟨.read, 4, 0x7C, 0⟩) = .ok (.rdReadsZero 0x7C)
      ∧ decode (.bus ⟨.write, 4, 0x7C, 5⟩) = .ok (.wrNoEffect 0x7C 5) := by decide

theorem witness_IllegalWordCompletesWithPreconditionViolation :
    (0x00000000 : Word) ∉ ([0x00000001, 0x00000002, 0x00000003, 0x00000004, 0x00000005, 0x00000006,
        0x00000017, 0x00000027, 0x00000037, 0x00000047, 0x00000008] : List Word)
      ∧ State.reset.state ≠ .busy
      ∧ (running 0 State.reset).state = .busy ∧ (running 0 State.reset).delay = 0
      ∧ (running 0 State.reset).resetIn.head? ≠ some true ∧ (running 0 State.reset).cmd = 0x00000000 := by decide

theorem witness_WrCmdStartsCommand : State.reset.state ≠ .busy ∧ (running 1 State.reset).state = .busy := by decide

/-- The same with every buffer overflowed. -/
def dueOverflowed : State :=
  { due with ovfPw := true, ovfUser := true, ovfDom := true, ovfData := true, ovfCh := true }

/-- The same with a challenge of 7 bytes, `DATA` of 20 and no domain. -/
def dueShort : State := { due with ch := ch1.tail, data := List.replicate 20 0, domV := false }

/-- The slice that ends with the source, the one a byte too far, and an overflow. -/
theorem witness_KeyexpResultOrError :
    ((({ due with offset := 14 } : State).state = .busy ∧ ({ due with offset := 14 } : State).ovfData = false)
        ∧ ({ due with offset := 14 } : State).offset.toNat + 7 ≤ ({ due with offset := 14 } : State).data.length)
      ∧ (({ due with offset := 15 } : State).state = .busy
        ∧ ({ due with offset := 15 } : State).data.length < ({ due with offset := 15 } : State).offset.toNat + 7)
      ∧ (dueOverflowed.state = .busy ∧ dueOverflowed.ovfData = true) := by decide

theorem witness_DesencResultOrError :
    (({ due with data := kgsBytes } : State).state = .busy
        ∧ ({ due with data := kgsBytes } : State).params.hasDes = true
        ∧ ({ due with data := kgsBytes } : State).ovfData = false
        ∧ ({ due with data := kgsBytes } : State).ovfCh = false
        ∧ ({ due with data := kgsBytes } : State).data = kgs.toList
        ∧ ({ due with data := kgsBytes } : State).ch = (fit 8 ch1).toList)
      ∧ (dueWithoutUnits.state = .busy ∧ dueWithoutUnits.params.hasDes = false)
      ∧ (dueShort.state = .busy ∧ dueShort.params.hasDes = true ∧ dueShort.ch.length ≠ 8)
      ∧ (dueOverflowed.state = .busy ∧ dueOverflowed.params.hasDes = true ∧ dueOverflowed.ovfCh = true)
      ∧ (due.state = .busy ∧ due.params.hasDes = true ∧ due.ovfData = false ∧ due.ovfCh = false
        ∧ due.ch.length = 8 ∧ due.data.length ≠ 8) := by decide

theorem witness_P16ResultOrError :
    (due.state = .busy ∧ due.params.hasDes = true ∧ due.ovfPw = false ∧ due.ovfCh = false
        ∧ due.ch = (fit 8 ch1).toList)
      ∧ (dueWithoutUnits.state = .busy ∧ dueWithoutUnits.params.hasDes = false)
      ∧ (dueOverflowed.state = .busy ∧ dueOverflowed.params.hasDes = true ∧ dueOverflowed.ovfPw = true)
      ∧ (dueShort.state = .busy ∧ dueShort.params.hasDes = true ∧ dueShort.ch.length ≠ 8) := by decide

theorem witness_P24pwResultOrError :
    (due.state = .busy ∧ due.params.hasDes = true ∧ due.ovfPw = false ∧ due.ovfCh = false
        ∧ due.ch = (fit 8 ch1).toList)
      ∧ (dueWithoutUnits.state = .busy ∧ dueWithoutUnits.params.hasDes = false)
      ∧ (dueOverflowed.state = .busy ∧ dueOverflowed.params.hasDes = true ∧ dueOverflowed.ovfPw = true)
      ∧ (dueShort.state = .busy ∧ dueShort.params.hasDes = true ∧ dueShort.ch.length ≠ 8) := by decide

theorem witness_LanmanResultOrError :
    (due.state = .busy ∧ due.params.hasDes = true ∧ due.ovfPw = false ∧ due.ovfCh = false
        ∧ due.ch = (fit 8 ch1).toList)
      ∧ (dueWithoutUnits.state = .busy ∧ dueWithoutUnits.params.hasDes = false)
      ∧ (dueOverflowed.state = .busy ∧ dueOverflowed.params.hasDes = true ∧ dueOverflowed.ovfPw = true)
      ∧ (dueShort.state = .busy ∧ dueShort.params.hasDes = true ∧ dueShort.ch.length ≠ 8) := by decide

theorem witness_P24p21ResultOrError :
    (due.state = .busy ∧ due.params.hasDes = true ∧ due.ovfData = false ∧ due.ovfCh = false
        ∧ due.data = (zeros 21).toList ∧ due.ch = (fit 8 ch1).toList)
      ∧ (dueWithoutUnits.state = .busy ∧ dueWithoutUnits.params.hasDes = false)
      ∧ (dueOverflowed.state = .busy ∧ dueOverflowed.params.hasDes = true ∧ dueOverflowed.ovfData = true)
      ∧ (dueShort.state = .busy ∧ dueShort.params.hasDes = true ∧ dueShort.data.length ≠ 21) := by decide

theorem witness_Md4ResultOrError :
    (due.state = .busy ∧ due.params.hasMd4 = true ∧ due.ovfData = false)
      ∧ (dueWithoutUnits.state = .busy ∧ dueWithoutUnits.params.hasMd4 = false)
      ∧ (dueOverflowed.state = .busy ∧ dueOverflowed.params.hasMd4 = true
        ∧ dueOverflowed.ovfData = true) := by decide

theorem witness_Ntlm1ResultOrError :
    (due.state = .busy ∧ due.params.hasMd4 = true ∧ due.params.hasDes = true ∧ due.ovfPw = false
        ∧ due.ovfCh = false ∧ due.ch = (fit 8 ch1).toList)
      ∧ (dueWithoutUnits.state = .busy ∧ dueWithoutUnits.params.hasMd4 = false)
      ∧ (dueOverflowed.state = .busy ∧ dueOverflowed.params.hasMd4 = true
        ∧ dueOverflowed.params.hasDes = true ∧ dueOverflowed.ovfCh = true)
      ∧ (dueShort.state = .busy ∧ dueShort.params.hasMd4 = true ∧ dueShort.params.hasDes = true
        ∧ dueShort.ch.length ≠ 8) := by decide

theorem witness_Ntlm2ResultOrError :
    (due.state = .busy ∧ due.params.hasMd4 = true ∧ due.params.hasHmacMd5 = true ∧ due.ovfPw = false
        ∧ due.ovfCh = false ∧ due.ch.length = 8 ∧ due.userV = true ∧ due.domV = true ∧ due.ovfUser = false
        ∧ due.ovfDom = false)
      ∧ (dueWithoutUnits.state = .busy ∧ dueWithoutUnits.params.hasHmacMd5 = false)
      ∧ (dueOverflowed.state = .busy ∧ dueOverflowed.params.hasMd4 = true
        ∧ dueOverflowed.params.hasHmacMd5 = true ∧ dueOverflowed.ovfUser = true)
      ∧ (dueShort.state = .busy ∧ dueShort.params.hasMd4 = true ∧ dueShort.params.hasHmacMd5 = true
        ∧ dueShort.domV = false) := by decide

theorem witness_Md4RawResultOrError :
    (due.state = .busy ∧ due.params.hasMd4 = true ∧ due.ovfPw = false ∧ due.ovfCh = false ∧ due.ch.length = 8)
      ∧ (dueWithoutUnits.state = .busy ∧ dueWithoutUnits.params.hasMd4 = false)
      ∧ (dueOverflowed.state = .busy ∧ dueOverflowed.params.hasMd4 = true ∧ dueOverflowed.ovfPw = true)
      ∧ (dueShort.state = .busy ∧ dueShort.params.hasMd4 = true ∧ dueShort.ch.length ≠ 8) := by decide

theorem witness_AvailDelivers : due.state = .busy := by decide

theorem witness_CommandErrorsExactly : isCommand .keyexp = true ∧ isCommand .avail = true ∧ due.state = .busy := by
  decide

theorem witness_ErrorEntryWritesOnlyTheRecord :
    isCommand .desenc = true ∧ due.state = .busy
      ∧ ∃ t, exec .desenc due = .next t ∧ t.state = .error := ⟨rfl, rfl, _, rfl, rfl⟩

theorem witness_CommandsKeepOperands : isCommand .avail = true ∧ ∃ t, exec .avail due = .next t := ⟨rfl, _, rfl⟩

/-- For the clauses of `KEYEXP` and `MD4`: a state that shares only `DATA` and `OFFSET` with `due`. -/
def dueOtherPw : State := running 0 { State.reset with data := due.data }

/-- For the clauses of the commands that read `PW`, `CH` or `DATA`: another identity and `OFFSET`. -/
def dueOtherUser : State := { due with user := [], userV := false, dom := [], ovfDom := true, offset := 9 }

/-- For the clauses of `NTLM2` and `MD4_RAW`: another challenge of 8 bytes and other `DATA`. -/
def dueOtherCh : State := { due with ch := kgsBytes, data := [], ovfData := true }

theorem witness_CommandsReadOnlyTheirOperands :
    (due.state = .busy ∧ dueOtherPw.state = .busy ∧ due.params = dueOtherPw.params ∧ due.data = dueOtherPw.data
        ∧ due.ovfData = dueOtherPw.ovfData ∧ due.offset = dueOtherPw.offset ∧ due.pw ≠ dueOtherPw.pw)
      ∧ (dueOtherUser.state = .busy ∧ due.params = dueOtherUser.params ∧ due.data = dueOtherUser.data
        ∧ due.ovfData = dueOtherUser.ovfData ∧ due.ch = dueOtherUser.ch ∧ due.ovfCh = dueOtherUser.ovfCh
        ∧ due.pw = dueOtherUser.pw ∧ due.ovfPw = dueOtherUser.ovfPw ∧ due.user ≠ dueOtherUser.user)
      ∧ (dueOtherCh.state = .busy ∧ due.params = dueOtherCh.params ∧ due.pw = dueOtherCh.pw
        ∧ due.ovfPw = dueOtherCh.ovfPw ∧ due.ch.length = dueOtherCh.ch.length ∧ due.ovfCh = dueOtherCh.ovfCh
        ∧ due.user = dueOtherCh.user ∧ due.userV = dueOtherCh.userV ∧ due.ovfUser = dueOtherCh.ovfUser
        ∧ due.dom = dueOtherCh.dom ∧ due.domV = dueOtherCh.domV ∧ due.ovfDom = dueOtherCh.ovfDom
        ∧ due.ch ≠ dueOtherCh.ch) := by decide

theorem witness_Ntlm2SeesOnlyUpcasedIdentity :
    due.state = .busy ∧ upcase ([0x75] ++ [0x64]) = upcase (due.user ++ due.dom) := by decide

theorem witness_DesIgnoresParityBits :
    (∀ j : Fin 8, (zeros 8)[j] >>> 1 = (Vector.replicate 8 (0x01 : Byte))[j] >>> 1)
      ∧ zeros 8 ≠ Vector.replicate 8 (0x01 : Byte) := by decide

/-- 14 units, and 13. -/
theorem witness_P14CutsOrPads :
    14 ≤ (upcase (List.replicate 14 0x61)).length ∧ (upcase (List.replicate 13 0x61)).length < 14 := by decide

/-- 14 and 15 units; and two texts that differ in the case of letters beside a unit of no ASCII. -/
theorem witness_LmHashSeesFourteenUpperCasedBytes :
    (((upcase (List.replicate 14 0x61)).map narrow).take 14
        = ((upcase (List.replicate 15 0x41)).map narrow).take 14)
      ∧ ([0x61, 0xE9, 0x5A] : Text).length = ([0x41, 0xE9, 0x7A] : Text).length := by decide

/-- The last hypothesis of the same statement, for those two texts. -/
theorem witness_LmHashSeesFourteenUpperCasedBytes_case (i : Nat) :
    ([0x61, 0xE9, 0x5A] : Text).getD i 0 = ([0x41, 0xE9, 0x7A] : Text).getD i 0
      ∨ (0x0041 ≤ ([0x61, 0xE9, 0x5A] : Text).getD i 0 ∧ ([0x61, 0xE9, 0x5A] : Text).getD i 0 ≤ 0x005A
          ∧ ([0x41, 0xE9, 0x7A] : Text).getD i 0 = ([0x61, 0xE9, 0x5A] : Text).getD i 0 + 0x0020)
      ∨ (0x0061 ≤ ([0x61, 0xE9, 0x5A] : Text).getD i 0 ∧ ([0x61, 0xE9, 0x5A] : Text).getD i 0 ≤ 0x007A
          ∧ ([0x41, 0xE9, 0x7A] : Text).getD i 0 = ([0x61, 0xE9, 0x5A] : Text).getD i 0 - 0x0020) := by
  match i with
  | 0 => decide
  | 1 => decide
  | 2 => decide
  | _ + 3 => exact .inl rfl

/-- 7 units, and none. -/
theorem witness_ShortPasswordShowsInLmHash :
    (upcase (List.replicate 7 0x61)).length ≤ 7 ∧ (upcase []).length ≤ 7 := by decide

theorem witness_EncoderLawsOnAscii :
    (∀ c ∈ ([0x00, 0x61, 0x7A, 0x7F] : Text), c < 0x0080) ∧ (0x7F : CodeUnit) < 0x0080 := by simp

theorem witness_UpcaseLawsOnEveryText :
    2 < ([0x61, 0xE9, 0x7F] : Text).length ∧ ([0x61, 0xE9, 0x7F] : Text).getD 2 0 < 0x0080
      ∧ ([0x61, 0xE9, 0x7F] : Text).getD 0 0 < 0x0080 := by decide

/-- A key of 64 bytes, and an empty one. -/
theorem witness_HmacConstruction : (List.replicate 64 (0 : Byte)).length ≤ 64 ∧ ([] : List Byte).length ≤ 64 := by
  decide

/-- Accepting: of the statements on pushes, `CTRL`, `IEN`, `OFFSET`, the reads and the ignored bits. -/
theorem witness_TextPushesAppendOrOverflow :
    State.reset.state ≠ .busy ∧ State.reset.pw.length < State.reset.params.textMax
      ∧ ¬(List.replicate 14 (0 : CodeUnit)).length < ({ Config.thisHardware with textMax := 14 } : Config.Params).textMax := by
  decide

theorem witness_BytePushesAppendOrOverflow :
    State.reset.state ≠ .busy ∧ State.reset.ch.length < State.reset.params.chMax
      ∧ ¬({ State.reset with ch := List.replicate 16 0 } : State).ch.length < State.reset.params.chMax := by decide

theorem witness_CtrlAppliesItsBits : State.reset.state ≠ .busy ∧ afterP16.state ≠ .busy := by decide

theorem witness_IenAndOffsetStoreAndReturn : afterP16.state ≠ .busy := by decide

theorem witness_LengthAndCmdReads : State.reset.state ≠ .busy := by decide

theorem witness_OutReadsPackLittleEndian : afterP16.state ≠ .busy ∧ Instr.rdOut5 = (match (5 : Fin 6) with
    | 0 => .rdOut0 | 1 => .rdOut1 | 2 => .rdOut2 | 3 => .rdOut3 | 4 => .rdOut4 | 5 => .rdOut5) := by decide

theorem witness_UnmappedAndOneWayOffsets : (0x04 : Offset) ∈ ([0x04, 0x28, 0x2C, 0x30, 0x34, 0x38, 0x40, 0x44,
      0x48, 0x4C, 0x50, 0x54, 0x3C, 0x58, 0x5C, 0x60, 0x64, 0x68, 0x6C, 0x70, 0x74, 0x78, 0x7C] : List Offset)
    ∧ (0x7C : Offset) ∈ ([0x08, 0x10, 0x14, 0x18, 0x1C, 0x20,
      0x3C, 0x58, 0x5C, 0x60, 0x64, 0x68, 0x6C, 0x70, 0x74, 0x78, 0x7C] : List Offset)
    ∧ State.reset.state ≠ .busy := by decide

theorem witness_BusyHoldsAllButStatusReads :
    isCommand (.wrCtrl 0) = false ∧ due.state = .busy ∧ Instr.wrCtrl 0 ≠ .rdStatus ∧ State.reset.state ≠ .busy := by
  decide

theorem witness_UpperWriteBitsAreIgnored :
    State.reset.state ≠ .busy ∧ (0x00001234 : Word).setWidth 16 = (0xABCD1234 : Word).setWidth 16
      ∧ (0x00000034 : Word).setWidth 8 = (0xABCD1234 : Word).setWidth 8
      ∧ (1 : Word).getLsbD 0 = (0xFFFFFFFF : Word).getLsbD 0 := by decide

theorem witness_BufferContentsAreUnreadable :
    isCommand .rdPwlen = false ∧ mixedPassword.length = due.pw.length ∧ ([0x00] : Text).length = due.user.length
      ∧ ([0x01] : Text).length = due.dom.length ∧ (List.replicate 21 (0xFF : Byte)).length = due.data.length
      ∧ kgsBytes.length = due.ch.length := by decide

theorem witness_StepRunsTheDecodedAccess :
    (issuing .rdStatus).resetIn.head? ≠ some true
      ∧ ¬((issuing .rdStatus).state = .busy ∧ (issuing .rdStatus).delay = 0)
      ∧ (issuing .rdStatus).pending = [encodeBus .rdStatus]
      ∧ decodeAccess (encodeBus .rdStatus) = .ok .rdStatus := by decide

theorem witness_StepRunsTheDecodedCommand :
    (State.reset.withCommand 8).resetIn.head? ≠ some true ∧ (State.reset.withCommand 8).state = .busy
      ∧ (State.reset.withCommand 8).delay = 0 ∧ decodeCommand (State.reset.withCommand 8).cmd = .ok .avail :=
  ⟨by simp [State.withCommand], rfl, rfl, by decide⟩

theorem witness_IdleStepChangesNothing :
    State.reset.resetIn.head? ≠ some true ∧ ¬(State.reset.state = .busy ∧ State.reset.delay = 0)
      ∧ State.reset.pending = []
      ∧ ¬((running 1 State.reset).state = .busy ∧ (running 1 State.reset).delay = 0) := by decide

theorem witness_ResetSetsEveryElement :
    ({ due with resetIn := [true], pending := [encodeBus .rdOut0] } : State).resetIn.head? = some true := by decide

theorem witness_AccessesOutsideTheInterfaceAreRefused :
    State.reset.resetIn.head? ≠ some true ∧ ¬(State.reset.state = .busy ∧ State.reset.delay = 0)
      ∧ ({ State.reset with pending := [⟨.write, 8, 0, 0⟩] } : State).pending = ⟨.write, 8, 0, 0⟩ :: []
      ∧ (BusAccess.mk .write 8 0 0).width ≠ 4
      ∧ (BusAccess.mk .read 4 0x7F 0).off % 4 ≠ 0
      ∧ (BusAccess.mk .read 4 0x80 0).off % 4 = 0 ∧ 128 ≤ (BusAccess.mk .read 4 0x80 0).off := by decide

theorem witness_DefinedScriptsNeverStop :
    ({ due with pending := [encodeBus .rdOut0, encodeBus (.wrCmd 8)] } : State).scriptDefined := by decide

theorem witness_InvKeptByEveryStep :
    (issuing (.wrCmd 8)).Inv ∧ nextHas (step (issuing (.wrCmd 8))) (fun _ => true) = true ∧ afterP16.Inv :=
  ⟨by decide, by decide, by decide⟩

theorem witness_StateTransitionsExactly : nextHas (step (issuing (.wrCmd 8))) (fun t => t.state == .busy) = true := by
  decide

theorem witness_CmdWrittenOnlyByWrCmd : nextHas (step (issuing (.wrCmd 8))) (fun t => t.cmd == 8) = true := by decide

theorem witness_OperandsWrittenOnlyByTheHost :
    nextHas (step (issuing (.wrOffset 1))) (fun t => t.offset == 1) = true := by decide

theorem witness_EveryCommandCompletes :
    (running 3 { due with pending := [encodeBus .rdStatus, encodeBus .rdOut0] }).state = .busy
      ∧ due.resetIn = []
      ∧ (running 3 { due with pending := [encodeBus .rdStatus, encodeBus .rdOut0] }).scriptDefined := by decide

theorem witness_RunsAgreeWithTheMergedMachine :
    (issuing (.wrCmd 8)).state ≠ .busy ∧ (issuing (.wrCmd 8)).resetIn = [] ∧ (issuing (.wrCmd 8)).scriptDefined
      ∧ ∀ a ∈ (issuing (.wrCmd 8)).pending, decodeAccess a ≠ .ok .rdStatus := by decide

/-- The three writes of the statement, from a state that holds a result. -/
def erasing (s : State) : State :=
  { s with pending := [encodeBus (.wrCtrl 0x3F), encodeBus (.wrOffset 0), encodeBus (.wrIen 0)] }

theorem witness_ThreeWritesReachTheResetState :
    ((erasing afterP16).state ≠ .busy
        ∧ ((erasing afterP16).state = .idle → (erasing afterP16).out = zeros 24 ∧ (erasing afterP16).outlen = 0
            ∧ (erasing afterP16).err = .noError)
        ∧ (erasing afterP16).resetIn = []
        ∧ (erasing afterP16).pending = [encodeBus (.wrCtrl 0x3F), encodeBus (.wrOffset 0), encodeBus (.wrIen 0)])
      ∧ ((erasing State.reset).state = .idle ∧ (erasing State.reset).out = zeros 24
        ∧ (erasing State.reset).outlen = 0 ∧ (erasing State.reset).err = .noError) := by decide

end Sys2Proof.Tests
end

section
/-! What a command delivers, what an accepted access writes and what a step does to CORE, each said once. -/

namespace Sys2Proof.Machine

variable {s t : State}

/-! ### What the decoders answer -/

/-- R95: a command word decodes to a command. -/
theorem isCommand_of_decodeCommand {w : Word} {i : Instr} (h : decodeCommand w = .ok i) :
    isCommand i = true := by
  have rows : ∀ row ∈ commandTable, isCommand row.2 = true := by decide
  exact rows _ (decodeCommand_mem h)

/-- R61, R64: no write of a register is a command. -/
theorem isCommand_decodeWrite (off : Offset) (v : Word) : isCommand (decodeWrite off v) = false := by
  have rows : ∀ row ∈ writeTable, isCommand (row.2 v) = false := by
    simp [writeTable, isCommand, commandWord]
  unfold decodeWrite
  split
  · exact rows _ (mem_of_lookup ‹_›)
  · rfl

/-- R61, R64: no read of a register is a command. -/
theorem isCommand_decodeRead (off : Offset) : isCommand (decodeRead off) = false := by
  have rows : ∀ row ∈ readTable, isCommand row.2 = false := by decide
  unfold decodeRead
  split
  · exact rows _ (mem_of_lookup ‹_›)
  · rfl

/-- R93: no access of the host is itself a command. -/
theorem isCommand_of_decodeAccess {a : BusAccess} {i : Instr} (h : decodeAccess a = .ok i) :
    isCommand i = false := by
  cases defined : a.wellFormed with
  | false =>
    obtain ⟨e, he⟩ := decodeAccess_of_not_wellFormed defined
    rw [he] at h
    cases h
  | true =>
    rw [decodeAccess_of_wellFormed defined] at h
    cases h
    split
    · exact isCommand_decodeWrite _ _
    · exact isCommand_decodeRead _

/-! ### How many bytes a command delivers -/

/-- R25, R93: what is delivered has one of the result lengths 1, 8, 16, 24. -/
def CmdOutcome.LegalLength : CmdOutcome → Prop
  | .ok b => b.length = 1 ∨ b.length = 8 ∨ b.length = 16 ∨ b.length = 24
  | .fail _ => True

/-- A check that fails delivers nothing, so only what follows it counts. -/
theorem CmdOutcome.LegalLength.guard {c : Prop} [Decidable c] {e : Err} {r : CmdOutcome}
    (h : r.LegalLength) : (if c then CmdOutcome.fail e else r).LegalLength := by
  split
  · trivial
  · exact h

theorem CmdOutcome.LegalLength.of8 (b : Bytes 8) : (CmdOutcome.ok b.toList).LegalLength :=
  .inr (.inl b.length_toList)

theorem CmdOutcome.LegalLength.of16 (b : Bytes 16) : (CmdOutcome.ok b.toList).LegalLength :=
  .inr (.inr (.inl b.length_toList))

theorem CmdOutcome.LegalLength.of24 (b : Bytes 24) : (CmdOutcome.ok b.toList).LegalLength :=
  .inr (.inr (.inr b.length_toList))

/-- R25: every command delivers one of the legal lengths, or fails. -/
theorem evalOf_legalLength (i : Instr) (s : State) : (evalOf i s).LegalLength := by
  cases i with
  | keyexp => exact .guard (.guard (.of8 _))
  | desenc => exact .guard (.guard (.guard (.guard (.of8 _))))
  | p16 => exact .guard (.guard (.guard (.of16 _)))
  | p24pw => exact .guard (.guard (.guard (.of24 _)))
  | p24p21 => exact .guard (.guard (.guard (.guard (.of24 _))))
  | md4 => exact .guard (.guard (.of16 _))
  | responseLanman => exact .guard (.guard (.guard (.of24 _)))
  | responseNtlm1 => exact .guard (.guard (.guard (.of24 _)))
  | responseNtlm2 => exact .guard (.guard (.guard (.guard (.guard (.of16 _)))))
  | responseMd4Raw => exact .guard (.guard (.guard (.of16 _)))
  | avail => exact .inl rfl
  | _ => trivial

/-! ### What each operation leaves unchanged -/

theorem State.sameOperands_refl (s : State) : s.sameOperands s := by simp [State.sameOperands]

/-- The operands of R21 are part of CORE's own state. -/
theorem State.sameOperands_of_core_eq (h : t.core = s.core) : s.sameOperands t := by
  change s.core.sameOperands t.core
  rw [h]
  exact s.core.sameOperands_refl

theorem State.state_of_core_eq (h : t.core = s.core) : t.state = s.state := by
  change t.core.state = s.core.state
  rw [h]

theorem State.cmd_of_core_eq (h : t.core = s.core) : t.cmd = s.cmd := by
  change t.core.cmd = s.core.cmd
  rw [h]

/-- R93, R268: no completion changes an operand. -/
theorem State.sameOperands_finish (r : CmdOutcome) (s : State) : s.sameOperands (s.finish r) := by
  cases r with
  | ok b => exact s.sameOperands_refl
  | fail e => exact s.sameOperands_refl

@[simp] theorem State.finish_cmd (r : CmdOutcome) (s : State) : (s.finish r).cmd = s.cmd := by
  cases r <;> rfl

/-- R23: a completion ends in `DONE` or `ERROR`. -/
theorem State.finish_state (r : CmdOutcome) (s : State) :
    (s.finish r).state = .done ∨ (s.finish r).state = .error := by
  cases r with
  | ok b => exact .inl rfl
  | fail e => exact .inr rfl

@[simp] theorem State.acknowledge_cmd (s : State) : s.acknowledge.cmd = s.cmd := by
  rcases s.acknowledge_cases with ⟨-, h⟩ | ⟨-, -, h⟩ <;> simp [h]

/-- R26: `CTRL` leaves `CMD` alone. -/
@[simp] theorem State.control_cmd (m : Word) (s : State) : (s.control m).cmd = s.cmd := by
  apply State.control_keeps (fun u => u.cmd = s.cmd) m <;> simp

/-- R238: an acknowledge moves `DONE` and `ERROR` to `IDLE` and no other state. -/
theorem State.acknowledge_state (s : State) :
    s.acknowledge.state = if s.state = .done ∨ s.state = .error then .idle else s.state := by
  unfold State.acknowledge
  split <;> rfl

/-- R244, R238: of the bits of `CTRL` only bit 5 concerns `STATE`. -/
theorem State.control_state (m : Word) (s : State) :
    (s.control m).state = if m.getLsbD 5 then s.acknowledge.state else s.state := by
  simp [State.control, ctrlActions, apply_ite State.state, State.acknowledge_state]

/-! ### What an accepted access writes -/

/-- R26: of the accesses only a write of `CMD` writes `CMD`. -/
theorem effectOf_cmd (i : Instr) (s : State) :
    (effectOf i s).cmd = s.cmd ∨ i = .wrCmd (effectOf i s).cmd := by
  cases i with
  | wrCmd w => exact .inr rfl
  | wrCtrl m => exact .inl (s.control_cmd m)
  | _ => exact .inl rfl

/-- R23: of the accesses only a write of `CMD` and an acknowledge change `STATE`. -/
theorem effectOf_state (i : Instr) (s : State) :
    (effectOf i s).state = s.state
      ∨ (∃ w, i = .wrCmd w ∧ (effectOf i s).state = .busy)
      ∨ (∃ m, i = .wrCtrl m ∧ m.getLsbD 5 = true ∧ (s.state = .done ∨ s.state = .error)
          ∧ (effectOf i s).state = .idle) := by
  cases i with
  | wrCmd w => exact .inr (.inl ⟨w, rfl, rfl⟩)
  | wrCtrl m =>
    have written : (effectOf (.wrCtrl m) s).state = _ := s.control_state m
    by_cases bit : m.getLsbD 5 = true
    · rw [if_pos bit, s.acknowledge_state] at written
      by_cases ended : s.state = .done ∨ s.state = .error
      · exact .inr (.inr ⟨m, rfl, bit, ended, by rw [written, if_pos ended]⟩)
      · exact .inl (by rw [written, if_neg ended])
    · exact .inl (by rw [written, if_neg bit])
  | _ => exact .inl rfl

/-- R29, R28: of the accesses only the pushes and the writes of `CTRL` and `OFFSET` change an operand. -/
theorem effectOf_operands (i : Instr) (s : State) :
    s.sameOperands (effectOf i s)
      ∨ ∃ v, i = .wrPwPush v ∨ i = .wrUserPush v ∨ i = .wrDomPush v ∨ i = .wrDataPush v ∨ i = .wrChPush v
          ∨ i = .wrCtrl v ∨ i = .wrOffset v := by
  cases i with
  | wrPwPush v | wrUserPush v | wrDomPush v | wrDataPush v | wrChPush v | wrCtrl v | wrOffset v =>
    exact .inr ⟨v, by simp⟩
  | _ => exact .inl s.sameOperands_refl

/-! ### What a step can do to CORE -/

/-- R69: every instruction that the host's next access can be, but a read of `STATUS`, waits for `BUSY` to
end. -/
theorem exec_of_held {i : Instr} (access : isCommand i = false) (held : i ≠ .rdStatus) (s : State) :
    exec i s = s.access i (effectOf i) := by
  rcases exec_shape i s with ⟨command, -⟩ | ⟨-, -, shape⟩ | ⟨status, -⟩
  · cases access.symm.trans command
  · exact shape
  · exact absurd status held

/-- R23, R69: everything an instruction in the place of the host's next access can do: it is accepted, or
it leaves CORE as it is. -/
theorem exec_access_cases {i : Instr} (access : isCommand i = false) (h : exec i s = .next t) :
    (s.state ≠ .busy ∧ t = effectOf i s) ∨ t.core = s.core := by
  by_cases status : i = .rdStatus
  · subst status
    cases h
    exact .inr rfl
  · rw [exec_of_held access status] at h
    rcases State.access_next h with ⟨-, rfl⟩ | accepted
    · exact .inr rfl
    · exact .inl accepted

/-- R6: what a step that answers a next state does to CORE: reset, a completion, an accepted access, or
nothing. -/
theorem step_core_cases (h : step s = .next t) :
    (s.resetIn.head? = some true ∧ t = s.applyReset)
      ∨ (s.state = .busy ∧ s.delay = 0 ∧ ∃ r : CmdOutcome, r.LegalLength ∧ t = s.tick.finish r)
      ∨ (s.state ≠ .busy ∧ ∃ a rest i, s.pending = a :: rest ∧ decodeAccess a = .ok i
          ∧ t = effectOf i s.tick.pop)
      ∨ t.core = s.core := by
  rcases step_next h with reset | ⟨busy, due, i, legal, run⟩ | ⟨busy, due, -, rfl⟩
    | ⟨a, rest, i, next, -, decoded, run⟩ | ⟨-, -, rfl⟩
  · exact .inl reset
  · refine .inr (.inl ⟨busy, due, evalOf i s.tick, evalOf_legalLength _ _, ?_⟩)
    rcases exec_shape i s.tick with ⟨-, shape⟩ | ⟨access, -⟩ | ⟨rfl, -⟩
    · rcases State.complete_next (shape.symm.trans run) with ⟨-, finished⟩ | ⟨idle, -⟩
      · exact finished
      · exact absurd busy idle
    · cases access.symm.trans (isCommand_of_decodeCommand legal)
    · cases isCommand_of_decodeCommand legal
  · exact .inr (.inl ⟨busy, due, .fail .preconditionViolation, trivial, rfl⟩)
  · rcases exec_access_cases (isCommand_of_decodeAccess decoded) run with ⟨ready, rfl⟩ | same
    · exact .inr (.inr (.inl ⟨ready, a, rest, i, next, decoded, rfl⟩))
    · exact .inr (.inr (.inr same))
  · exact .inr (.inr (.inr rfl))

end Sys2Proof.Machine
end

section
/-! The parts of the invariant R38 that concern the result and those that concern the operands, and what keeps
each. -/

namespace Sys2Proof.Machine

variable {s t : State}

/-! ### One buffer -/

/-- R38 (e), (g) for one buffer: within its capacity, and marked as overflown only where it is full. -/
structure BufferOk {α : Type} (cap : Nat) (buf : List α) (ovf : Bool) : Prop where
  within : buf.length ≤ cap
  full : ovf = true → buf.length = cap

theorem BufferOk.empty {α : Type} (cap : Nat) : BufferOk cap ([] : List α) false :=
  ⟨cap.zero_le, nofun⟩

/-- R30: a push keeps a buffer within its capacity, and marks it only where it is full. -/
theorem BufferOk.push {α : Type} {cap : Nat} {buf : List α} {ovf : Bool} (ok : BufferOk cap buf ovf) (x : α) :
    BufferOk cap (pushWithin cap buf ovf x).1 (pushWithin cap buf ovf x).2 := by
  rcases pushWithin_cases cap buf ovf x with ⟨room, pushed⟩ | ⟨full, pushed⟩
  · rw [pushed]
    refine ⟨by simpa using room, fun marked => ?_⟩
    exact absurd (ok.full marked) room.ne
  · rw [pushed]
    exact ⟨ok.within, fun _ => ok.within.antisymm full⟩

/-! ### The operands -/

/-- R38 (e), (f), (g), buffer by buffer. -/
structure State.OperandInv (s : State) : Prop where
  pw : BufferOk s.params.textMax s.pw s.ovfPw
  user : BufferOk s.params.textMax s.user s.ovfUser
  dom : BufferOk s.params.textMax s.dom s.ovfDom
  data : BufferOk s.params.dataMax s.data s.ovfData
  ch : BufferOk s.params.chMax s.ch s.ovfCh
  userMarked : 0 < s.user.length → s.userV = true
  domMarked : 0 < s.dom.length → s.domV = true

/-- R244: every write of `CTRL` keeps the operands' part of the invariant. -/
theorem State.OperandInv.control (ok : s.OperandInv) (m : Word) : (s.control m).OperandInv := by
  refine State.control_keeps State.OperandInv m ?pw ?user ?dom ?data ?ch ?ack ?setUser ?setDom ok
  case pw => exact fun u hu => { hu with pw := .empty _ }
  case user => exact fun u hu => { hu with user := .empty _, userMarked := nofun }
  case dom => exact fun u hu => { hu with dom := .empty _, domMarked := nofun }
  case data => exact fun u hu => { hu with data := .empty _ }
  case ch => exact fun u hu => { hu with ch := .empty _ }
  case ack =>
    intro u hu
    rcases u.acknowledge_cases with ⟨-, done⟩ | ⟨-, -, done⟩
    · rw [done]
      exact { hu with }
    · rwa [done]
  case setUser => exact fun u hu => { hu with userMarked := fun _ => rfl }
  case setDom => exact fun u hu => { hu with domMarked := fun _ => rfl }

/-- R29, R30: every accepted access keeps the operands' part of the invariant. -/
theorem State.OperandInv.effectOf (ok : s.OperandInv) (i : Instr) : (effectOf i s).OperandInv := by
  cases i with
  | wrPwPush v => exact { ok with pw := ok.pw.push _ }
  | wrUserPush v => exact { ok with user := ok.user.push _, userMarked := fun _ => rfl }
  | wrDomPush v => exact { ok with dom := ok.dom.push _, domMarked := fun _ => rfl }
  | wrDataPush v => exact { ok with data := ok.data.push _ }
  | wrChPush v => exact { ok with ch := ok.ch.push _ }
  | wrCtrl m => exact ok.control m
  | _ => exact { ok with }

/-- R21: every completion keeps the operands' part of the invariant. -/
theorem State.OperandInv.finish (ok : s.OperandInv) (r : CmdOutcome) : (s.finish r).OperandInv := by
  cases r with
  | ok b => exact { ok with }
  | fail e => exact { ok with }

/-! ### The result -/

/-- R38 (a) to (d): the parts that concern `OUT`, `OUTLEN`, `ERR` and `STATE`. -/
structure State.ResultInv (s : State) : Prop where
  err : s.errMatches
  done : s.outlenOnlyDone
  tail : s.outTailZero
  legal : s.outlenLegal

/-- R25: where no result is held, outside `ERROR`. -/
theorem State.ResultInv.withoutResult (s : State) {q : SeqState} (hq : q ≠ .error) :
    (s.withoutResult q).ResultInv where
  err := by simp [State.errMatches, hq]
  done := by simp [State.outlenOnlyDone]
  tail := by simp [State.outTailZero]
  legal := .inl rfl

/-- R268: after the error entry. -/
theorem State.ResultInv.errorEntry (s : State) (e : Err) : (s.errorEntry e).ResultInv where
  err := by simp [State.errMatches]
  done := by simp [State.outlenOnlyDone]
  tail := by simp [State.outTailZero]
  legal := .inl rfl

/-- R93: after a result of a legal length; `OUT` is the result and then zeros. -/
theorem State.ResultInv.deliver (s : State) {b : List Byte} (legal : (CmdOutcome.ok b).LegalLength) :
    (s.deliver b).ResultInv where
  err := by simp [State.errMatches]
  done := by simp [State.outlenOnlyDone]
  tail := by
    intro i past
    have short : b.length < 32 := by rcases legal with h | h | h | h <;> omega
    have outside : b.length ≤ i.val := by simpa [Nat.mod_eq_of_lt short] using past
    simp [List.getElem?_eq_none outside]
  legal := by
    rcases legal with h | h | h | h <;> simp [State.outlenLegal, h]

/-- R93, R268: after every completion. -/
theorem State.ResultInv.finish (s : State) {r : CmdOutcome} (legal : r.LegalLength) :
    (s.finish r).ResultInv := by
  cases r with
  | ok b => exact .deliver s legal
  | fail e => exact .errorEntry s e

/-- R238: of the actions of `CTRL` only the acknowledge touches the result, and it erases it. -/
theorem State.ResultInv.control (ok : s.ResultInv) (m : Word) : (s.control m).ResultInv := by
  refine State.control_keeps State.ResultInv m ?pw ?user ?dom ?data ?ch ?ack ?setUser ?setDom ok
  case ack =>
    intro u hu
    rcases u.acknowledge_cases with ⟨-, done⟩ | ⟨-, -, done⟩
    · rw [done]
      exact .withoutResult u (by simp)
    · rwa [done]
  all_goals exact fun u hu => { hu with }

/-- Every accepted access keeps the result's part of the invariant. -/
theorem State.ResultInv.effectOf (ok : s.ResultInv) (i : Instr) : (effectOf i s).ResultInv := by
  cases i with
  | wrCmd w =>
    have erased := State.ResultInv.withoutResult s (q := .busy) (by simp)
    exact { erased with }
  | wrCtrl m => exact ok.control m
  | _ => exact { ok with }

/-! ### The whole invariant -/

/-- R38: the seven parts, gathered by what they concern. -/
theorem State.inv_iff : s.Inv ↔ s.ResultInv ∧ s.OperandInv := by
  constructor
  · rintro ⟨err, done, tail, legal, ⟨pw, user, dom, data, ch⟩, ⟨userMarked, domMarked⟩,
      ⟨ovfPw, ovfUser, ovfDom, ovfData, ovfCh⟩⟩
    exact ⟨⟨err, done, tail, legal⟩,
      ⟨⟨pw, ovfPw⟩, ⟨user, ovfUser⟩, ⟨dom, ovfDom⟩, ⟨data, ovfData⟩, ⟨ch, ovfCh⟩, userMarked, domMarked⟩⟩
  · rintro ⟨⟨err, done, tail, legal⟩,
      ⟨pw, ovfPw⟩, ⟨user, ovfUser⟩, ⟨dom, ovfDom⟩, ⟨data, ovfData⟩, ⟨ch, ovfCh⟩, userMarked, domMarked⟩
    exact ⟨err, done, tail, legal, ⟨pw, user, dom, data, ch⟩, ⟨userMarked, domMarked⟩,
      ⟨ovfPw, ovfUser, ovfDom, ovfData, ovfCh⟩⟩

/-- R38 speaks of CORE's own state alone. -/
theorem State.inv_of_core_eq (same : t.core = s.core) (ok : s.Inv) : t.Inv := by
  have kept : s.core.Inv := ok
  rw [← same] at kept
  exact kept

/-- R40: the invariant holds after reset, whatever the parameters. -/
theorem State.inv_reset (p : Config.Params) : ({ State.reset with params := p } : State).Inv := by
  have erased := State.ResultInv.withoutResult State.reset (q := .idle) (by simp)
  exact State.inv_iff.mpr ⟨{ erased with },
    ⟨.empty _, .empty _, .empty _, .empty _, .empty _, nofun, nofun⟩⟩

/-- R38, R40, R290: applied reset establishes the invariant. -/
theorem State.inv_applyReset (s : State) : s.applyReset.Inv :=
  State.inv_of_core_eq rfl (State.inv_reset s.params)

/-- R38: every completion keeps the invariant. -/
theorem State.Inv.finish {r : CmdOutcome} (ok : s.Inv) (legal : r.LegalLength) : (s.finish r).Inv :=
  State.inv_iff.mpr ⟨.finish s legal, (State.inv_iff.mp ok).2.finish r⟩

/-- R38: every accepted access keeps the invariant. -/
theorem State.Inv.effectOf (ok : s.Inv) (i : Instr) : (effectOf i s).Inv := by
  obtain ⟨result, operands⟩ := State.inv_iff.mp ok
  exact State.inv_iff.mpr ⟨result.effectOf i, operands.effectOf i⟩

end Sys2Proof.Machine
end

section
/-! The `STATUS` word, field by field (R34). -/

namespace Sys2Proof.Machine

variable (s : State)

/-- R34: bits 1:0. -/
theorem State.statusWord_state : s.statusWord.extractLsb' 0 2 = s.state.code := by
  apply BitVec.eq_of_getLsbD_eq
  intro i hi
  simp (disch := omega) only [State.statusWord, BitVec.getLsbD_extractLsb', BitVec.getLsbD_append, if_pos]
  simp [hi]

/-- R34: bits 3:2. -/
theorem State.statusWord_err : s.statusWord.extractLsb' 2 2 = s.err.code := by
  apply BitVec.eq_of_getLsbD_eq
  intro i hi
  simp (disch := omega) only [State.statusWord, BitVec.getLsbD_extractLsb', BitVec.getLsbD_append, if_pos,
    if_neg]
  simp [hi]

/-- R34: bits 8:4. -/
theorem State.statusWord_outlen : s.statusWord.extractLsb' 4 5 = s.outlen := by
  apply BitVec.eq_of_getLsbD_eq
  intro i hi
  simp (disch := omega) only [State.statusWord, BitVec.getLsbD_extractLsb', BitVec.getLsbD_append, if_pos,
    if_neg]
  simp [hi, Nat.sub_sub]

/-- R34: bits 16:9, the one-bit fields. -/
theorem State.statusWord_flags :
    s.statusWord.getLsbD 9 = s.userV ∧ s.statusWord.getLsbD 10 = s.domV
      ∧ s.statusWord.getLsbD 11 = s.ovfPw ∧ s.statusWord.getLsbD 12 = s.ovfUser
      ∧ s.statusWord.getLsbD 13 = s.ovfDom ∧ s.statusWord.getLsbD 14 = s.ovfData
      ∧ s.statusWord.getLsbD 15 = s.ovfCh ∧ s.statusWord.getLsbD 16 = s.irq := by
  simp only [State.statusWord, BitVec.getLsbD_append]
  simp

/-- R34: bits 31:17. -/
theorem State.statusWord_reserved : s.statusWord.extractLsb' 17 15 = 0 := by
  apply BitVec.eq_of_getLsbD_eq
  intro i hi
  simp (disch := omega) only [State.statusWord, BitVec.getLsbD_extractLsb', BitVec.getLsbD_append, if_neg]
  simp [hi]

end Sys2Proof.Machine
end

section
/-! Two states that differ in the contents of the buffers alone, not in their lengths (R29, R33), and that the
accesses keep them so. -/

namespace Sys2Proof.Machine

variable {s t : State}

/-- The contents of the five buffers. -/
structure BufferContents where
  pw : Text
  user : Text
  dom : Text
  data : List Byte
  ch : List Byte

/-- The state with other buffer contents, and another time left to the running command. -/
def State.withContents (s : State) (c : BufferContents) (delay : Nat) : State :=
  { s with pw := c.pw, user := c.user, dom := c.dom, data := c.data, ch := c.ch, delay := delay }

/-- The contents have the lengths that the state's buffers have. -/
structure BufferContents.Fits (c : BufferContents) (s : State) : Prop where
  pw : c.pw.length = s.pw.length
  user : c.user.length = s.user.length
  dom : c.dom.length = s.dom.length
  data : c.data.length = s.data.length
  ch : c.ch.length = s.ch.length

/-- The second state is the first but for buffer contents of equal lengths, and for `delay`. -/
def State.SameButContents (s t : State) : Prop :=
  ∃ (c : BufferContents) (delay : Nat), c.Fits s ∧ t = s.withContents c delay

/-- R30: whether a push fits, and the length after it, is a matter of the length before it. -/
theorem pushWithin_of_same_length {α : Type} {buf buf' : List α} (same : buf'.length = buf.length) (cap : Nat)
    (ovf : Bool) (x : α) :
    ∃ b, b.length = (pushWithin cap buf ovf x).1.length
      ∧ pushWithin cap buf' ovf x = (b, (pushWithin cap buf ovf x).2) := by
  rcases pushWithin_cases cap buf ovf x with ⟨room, pushed⟩ | ⟨full, pushed⟩
  · exact ⟨buf' ++ [x], by simp [pushed, same], by rw [pushed]; exact if_pos (same.trans_lt room)⟩
  · exact ⟨buf', by rw [pushed, same], by rw [pushed]; exact if_neg (same ▸ full.not_gt)⟩

/-- R33, R64: a readable register shows of a buffer at most the length. -/
theorem registerValue_withContents {c : BufferContents} (fits : c.Fits s) (delay : Nat) (off : Offset) :
    (s.withContents c delay).registerValue off = s.registerValue off := by
  unfold State.registerValue
  split
  case h_5 => exact congrArg (BitVec.ofNat 32) fits.pw
  case h_6 => exact congrArg (BitVec.ofNat 32) fits.user
  case h_7 => exact congrArg (BitVec.ofNat 32) fits.dom
  case h_8 => exact congrArg (BitVec.ofNat 32) fits.data
  case h_9 => exact congrArg (BitVec.ofNat 32) fits.ch
  all_goals rfl

/-- R68: a read answers the same word in both states. -/
theorem State.SameButContents.readRegister (same : s.SameButContents t) (off : Offset) :
    (s.readRegister off).SameButContents (t.readRegister off) := by
  obtain ⟨c, delay, fits, rfl⟩ := same
  refine ⟨c, delay, { fits with }, ?_⟩
  unfold State.readRegister
  rw [registerValue_withContents fits]
  rfl

/-- R238: whether an acknowledge has an effect does not depend on the buffers. -/
theorem State.SameButContents.acknowledge (same : s.SameButContents t) :
    s.acknowledge.SameButContents t.acknowledge := by
  obtain ⟨c, delay, fits, rfl⟩ := same
  rcases s.acknowledge_cases with ⟨ended, done⟩ | ⟨notDone, notError, done⟩
  · rw [done]
    exact ⟨c, delay, { fits with }, if_pos ended⟩
  · rw [done]
    exact ⟨c, delay, fits, if_neg (not_or.mpr ⟨notDone, notError⟩)⟩

/-- R244: a relation that each of the eight actions keeps is kept by every write of `CTRL`. -/
theorem State.control_rel {R : State → State → Prop} (m : Word)
    (each : ∀ a ∈ ctrlActions, ∀ u v, R u v → R (a.2 u) (a.2 v)) (h : R s t) :
    R (s.control m) (t.control m) := by
  refine List.foldl_rel h fun a mem u v huv => ?_
  split
  · exact each a mem u v huv
  · exact huv

/-- R236, R237: a write of `CTRL` clears the same buffers in both states. -/
theorem State.SameButContents.control (same : s.SameButContents t) (m : Word) :
    (s.control m).SameButContents (t.control m) := by
  refine State.control_rel m ?_ same
  simp only [ctrlActions, List.forall_mem_cons, List.not_mem_nil, false_implies, implies_true, and_true]
  refine ⟨?clearPw, ?clearUser, ?clearDom, ?clearData, ?clearCh, fun _ _ h => h.acknowledge, ?setUser, ?setDom⟩
  all_goals rintro u _ ⟨c, delay, fits, rfl⟩
  case clearPw => exact ⟨{ c with pw := [] }, delay, { fits with pw := rfl }, rfl⟩
  case clearUser => exact ⟨{ c with user := [] }, delay, { fits with user := rfl }, rfl⟩
  case clearDom => exact ⟨{ c with dom := [] }, delay, { fits with dom := rfl }, rfl⟩
  case clearData => exact ⟨{ c with data := [] }, delay, { fits with data := rfl }, rfl⟩
  case clearCh => exact ⟨{ c with ch := [] }, delay, { fits with ch := rfl }, rfl⟩
  case setUser => exact ⟨c, delay, { fits with }, rfl⟩
  case setDom => exact ⟨c, delay, { fits with }, rfl⟩

/-- R33: every accepted access keeps two states the same but for contents. -/
theorem State.SameButContents.effectOf (same : s.SameButContents t) (i : Instr) :
    (effectOf i s).SameButContents (effectOf i t) := by
  cases i with
  | wrCtrl m => exact same.control m
  | rdCmd | rdStatus | rdIen | rdOffset | rdPwlen | rdUserlen | rdDomlen | rdDatalen | rdChlen | rdOut0
  | rdOut1 | rdOut2 | rdOut3 | rdOut4 | rdOut5 => exact same.readRegister _
  | wrCmd w =>
    obtain ⟨c, delay, fits, rfl⟩ := same
    exact ⟨c, Config.latency (s.withContents c delay) w, { fits with }, rfl⟩
  | wrPwPush v =>
    obtain ⟨c, delay, fits, rfl⟩ := same
    obtain ⟨b, length, pushed⟩ := pushWithin_of_same_length fits.pw s.params.textMax s.ovfPw (v.extractLsb' 0 16)
    exact ⟨{ c with pw := b }, delay, { fits with pw := length },
      by simp only [Machine.effectOf, State.pushPw, State.withContents, pushed]⟩
  | wrUserPush v =>
    obtain ⟨c, delay, fits, rfl⟩ := same
    obtain ⟨b, length, pushed⟩ := pushWithin_of_same_length fits.user s.params.textMax s.ovfUser (v.extractLsb' 0 16)
    exact ⟨{ c with user := b }, delay, { fits with user := length },
      by simp only [Machine.effectOf, State.pushUser, State.withContents, pushed]⟩
  | wrDomPush v =>
    obtain ⟨c, delay, fits, rfl⟩ := same
    obtain ⟨b, length, pushed⟩ := pushWithin_of_same_length fits.dom s.params.textMax s.ovfDom (v.extractLsb' 0 16)
    exact ⟨{ c with dom := b }, delay, { fits with dom := length },
      by simp only [Machine.effectOf, State.pushDom, State.withContents, pushed]⟩
  | wrDataPush v =>
    obtain ⟨c, delay, fits, rfl⟩ := same
    obtain ⟨b, length, pushed⟩ := pushWithin_of_same_length fits.data s.params.dataMax s.ovfData (v.extractLsb' 0 8)
    exact ⟨{ c with data := b }, delay, { fits with data := length },
      by simp only [Machine.effectOf, State.pushData, State.withContents, pushed]⟩
  | wrChPush v =>
    obtain ⟨c, delay, fits, rfl⟩ := same
    obtain ⟨b, length, pushed⟩ := pushWithin_of_same_length fits.ch s.params.chMax s.ovfCh (v.extractLsb' 0 8)
    exact ⟨{ c with ch := b }, delay, { fits with ch := length },
      by simp only [Machine.effectOf, State.pushCh, State.withContents, pushed]⟩
  | _ =>
    obtain ⟨c, delay, fits, rfl⟩ := same
    exact ⟨c, delay, { fits with }, rfl⟩

/-- R69: both states hold an access, or both accept it, and are the same but for contents afterwards. -/
theorem State.SameButContents.exec (same : s.SameButContents t) {i : Instr} (access : isCommand i = false) :
    ∃ s' t', exec i s = .next s' ∧ exec i t = .next t' ∧ s'.SameButContents t' := by
  by_cases status : i = .rdStatus
  · subst status
    exact ⟨_, _, rfl, rfl, same.effectOf .rdStatus⟩
  rw [exec_of_held access status, exec_of_held access status]
  have sameState : t.state = s.state := by
    obtain ⟨c, delay, -, rfl⟩ := same
    rfl
  by_cases busy : s.state = .busy
  · refine ⟨_, _, s.access_of_busy _ _ busy, t.access_of_busy _ _ (sameState.trans busy), ?_⟩
    obtain ⟨c, delay, fits, rfl⟩ := same
    exact ⟨c, delay, { fits with }, rfl⟩
  · exact ⟨_, _, s.access_of_not_busy _ _ busy, t.access_of_not_busy _ _ (sameState ▸ busy), same.effectOf i⟩

end Sys2Proof.Machine
end

section
/-! The statements of `10_state.md`. Those about every step follow from what a step can do to CORE
(`step_core_cases`). -/

namespace Sys2Proof.Machine

/-- Settles O51: the case of this hardware's parameters. -/
theorem invAtReset : Obligations.InvAtReset := State.inv_reset Config.thisHardware

/-- Settles O52, by the four things a step can do to CORE, each of which keeps both parts of the
invariant. -/
theorem invKeptByEveryStep : Obligations.InvKeptByEveryStep := by
  intro s t ok h
  have ticked : s.tick.Inv := State.inv_of_core_eq rfl ok
  have popped : s.tick.pop.Inv := State.inv_of_core_eq rfl ok
  rcases step_core_cases h with ⟨-, rfl⟩ | ⟨-, -, r, legal, rfl⟩ | ⟨-, a, rest, i, -, -, rfl⟩ | same
  · exact s.inv_applyReset
  · exact ticked.finish legal
  · exact popped.effectOf i
  · exact State.inv_of_core_eq same ok

/-- Settles O53: a step's kind says which transition it is. -/
theorem stateTransitionsExactly : Obligations.StateTransitionsExactly := by
  intro s t h
  rcases step_core_cases h with ⟨reset, rfl⟩ | ⟨busy, due, r, -, rfl⟩ | ⟨ready, a, rest, i, next, decoded, rfl⟩
    | same
  · exact .inr (.inl ⟨reset, rfl⟩)
  · exact .inr (.inr (.inr (.inl ⟨busy, due, s.tick.finish_state r⟩)))
  · rcases effectOf_state i s.tick.pop with kept | ⟨w, rfl, started⟩ | ⟨m, rfl, bit, ended, idle⟩
    · exact .inl kept
    · exact .inr (.inr (.inl ⟨ready, started, a, rest, w, next, decoded⟩))
    · exact .inr (.inr (.inr (.inr ⟨ended, idle, a, rest, m, next, decoded, bit⟩)))
  · exact .inl (State.state_of_core_eq same)

/-- Settles O54: of the things a step can do, only reset and an accepted write of `CMD` write it. -/
theorem cmdWrittenOnlyByWrCmd : Obligations.CmdWrittenOnlyByWrCmd := by
  intro s t h
  rcases step_core_cases h with ⟨reset, rfl⟩ | ⟨-, -, r, -, rfl⟩ | ⟨ready, a, rest, i, next, decoded, rfl⟩
    | same
  · exact .inr (.inl ⟨reset, rfl⟩)
  · exact .inl (s.tick.finish_cmd r)
  · rcases effectOf_cmd i s.tick.pop with kept | written
    · exact .inl kept
    · exact .inr (.inr ⟨ready, a, rest, next, decoded.trans (congrArg Except.ok written)⟩)
  · exact .inl (State.cmd_of_core_eq same)

/-- Settles O55: a completion and a step that leaves CORE alone keep the operands, and so does an accepted
access but for the seven writes. -/
theorem operandsWrittenOnlyByTheHost : Obligations.OperandsWrittenOnlyByTheHost := by
  intro s t h
  rcases step_core_cases h with ⟨reset, -⟩ | ⟨-, -, r, -, rfl⟩ | ⟨ready, a, rest, i, next, decoded, rfl⟩
    | same
  · exact .inr (.inl reset)
  · exact .inl (s.tick.sameOperands_finish r)
  · rcases effectOf_operands i s.tick.pop with kept | ⟨v, write⟩
    · exact .inl kept
    · exact .inr (.inr ⟨ready, a, rest, v, next, by simpa [decoded] using write⟩)
  · exact .inl (State.sameOperands_of_core_eq same)

/-- Settles O20: a command's completion is one of the two results' writes, and neither touches anything
else. -/
theorem commandsKeepOperands : Obligations.CommandsKeepOperands := by
  intro i s t command h
  rcases exec_shape i s with ⟨-, shape⟩ | ⟨access, -⟩ | ⟨rfl, -⟩
  · rcases State.complete_next (shape.symm.trans h) with ⟨-, rfl⟩ | ⟨-, rfl⟩
    · rcases s.finish_cases (evalOf i s) with ⟨b, -, delivered⟩ | ⟨e, -, failed⟩
      · rw [delivered]
        exact ⟨s.sameOperands_refl, rfl, rfl, rfl, rfl, rfl, rfl, rfl⟩
      · rw [failed]
        exact ⟨s.sameOperands_refl, rfl, rfl, rfl, rfl, rfl, rfl, rfl⟩
    · exact ⟨t.sameOperands_refl, rfl, rfl, rfl, rfl, rfl, rfl, rfl⟩
  · cases command.symm.trans access
  · cases command

/-- Settles O37: the read answers the `STATUS` word, whose fields are R34's. -/
theorem statusReadShowsTheState : Obligations.StatusReadShowsTheState := by
  intro s
  obtain ⟨userV, domV, ovfPw, ovfUser, ovfDom, ovfData, ovfCh, irq⟩ := s.statusWord_flags
  refine ⟨s.statusWord, rfl, ?_, ?_, s.statusWord_outlen, userV, domV, ovfPw, ovfUser, ovfDom, ovfData, ovfCh,
    irq, s.statusWord_reserved⟩
  · rw [s.statusWord_state]
    cases s.state <;> rfl
  · rw [s.statusWord_err]
    rcases s.err with _ | ⟨_ | _ | _⟩ <;> rfl

/-- Settles O43: the two states are the same but for contents, and every access keeps them so. -/
theorem bufferContentsAreUnreadable : Obligations.BufferContentsAreUnreadable := by
  intro i s pw user dom data ch access hpw huser hdom hdata hch
  have same : s.SameButContents { s with pw := pw, user := user, dom := dom, data := data, ch := ch } :=
    ⟨⟨pw, user, dom, data, ch⟩, s.delay, ⟨hpw, huser, hdom, hdata, hch⟩, rfl⟩
  obtain ⟨s', _, run, run', ⟨pw', user', dom', data', ch'⟩, delay', fits, rfl⟩ := same.exec access
  exact ⟨s', pw', user', dom', data', ch', delay', run, run', fits.pw, fits.user, fits.dom, fits.data, fits.ch⟩

/-- Settles O48, by evaluation of the one state it speaks of. -/
theorem resetValues : Obligations.ResetValues := by
  unfold Obligations.ResetValues
  decide

end Sys2Proof.Machine
end

section
/-! What the host's next access is and does: what it decodes to, what its acceptance leaves alone, and what a
step does with it (R62, R63, R69). -/

namespace Sys2Proof.Machine

variable {s : State} {a : BusAccess} {rest : List BusAccess} {i : Instr}

/-! ### Accesses of the interface -/

/-- R62: an aligned write of the window decodes to its offset's row. -/
theorem decodeAccess_write {off : Offset} (v : Word) (aligned : off.toNat % 4 = 0) :
    decodeAccess ⟨.write, 4, off.toNat, v⟩ = .ok (decodeWrite off v) := by
  have defined := decodeAccess_of_wellFormed (Laws.writeAt_wellFormed off v aligned)
  simpa [writeAt] using defined

/-- R62: an aligned read of the window decodes to its offset's row, whatever word stands in its value field. -/
theorem decodeAccess_read {off : Offset} (v : Word) (aligned : off.toNat % 4 = 0) :
    decodeAccess ⟨.read, 4, off.toNat, v⟩ = .ok (decodeRead off) := by
  have defined := decodeAccess_of_wellFormed (a := ⟨.read, 4, off.toNat, v⟩) (Laws.readAt_wellFormed off aligned)
  simpa using defined

/-- R64: a write at the default row's offsets is no register's. -/
theorem decodeWrite_of_noEffect {off : Offset} (listed : off ∈ noEffectOffsets) (v : Word) :
    decodeWrite off v = .wrNoEffect off v := by
  have rows : ∀ o ∈ noEffectOffsets, (writeTable.lookup o).isNone = true := by decide
  rw [decodeWrite, Option.isNone_iff_eq_none.mp (rows off listed)]

/-- R64: a read at the default row's offsets is no register's. -/
theorem decodeRead_of_readsZero {off : Offset} (listed : off ∈ readsZeroOffsets) :
    decodeRead off = .rdReadsZero off := by
  have rows : ∀ o ∈ readsZeroOffsets, readTable.lookup o = none := by decide
  rw [decodeRead, rows off listed]

/-- R61, R64: what a write decodes to is encoded as that write. -/
theorem encodeBus_decodeWrite (off : Offset) (v : Word) : encodeBus (decodeWrite off v) = writeAt off v := by
  have rows : ∀ row ∈ writeTable, encodeBus (row.2 v) = writeAt row.1 v := by
    simp [writeTable, encodeBus]
  unfold decodeWrite
  split
  · exact rows _ (mem_of_lookup ‹_›)
  · rfl

/-- R61, R64: what a read decodes to is encoded as that read. -/
theorem encodeBus_decodeRead (off : Offset) : encodeBus (decodeRead off) = readAt off := by
  have rows : ∀ row ∈ readTable, encodeBus row.2 = readAt row.1 := by decide
  unfold decodeRead
  split
  · exact rows _ (mem_of_lookup ‹_›)
  · rfl

/-- R63: only accesses of the interface decode. -/
theorem wellFormed_of_decodeAccess (decoded : decodeAccess a = .ok i) : a.wellFormed = true := by
  cases defined : a.wellFormed with
  | true => rfl
  | false =>
    obtain ⟨e, refused⟩ := decodeAccess_of_not_wellFormed defined
    cases decoded.symm.trans refused

/-- R69: an access that is held is not turned into another: encoded anew, it decodes as it did. -/
theorem decodeAccess_encodeBus (decoded : decodeAccess a = .ok i) : decodeAccess (encodeBus i) = .ok i := by
  have defined := wellFormed_of_decodeAccess decoded
  have aligned : (BitVec.ofNat 7 a.off).toNat % 4 = 0 := by
    simp only [BusAccess.wellFormed, Bool.and_eq_true, beq_iff_eq] at defined
    rw [BitVec.toNat_ofNat]
    omega
  rw [decodeAccess_of_wellFormed defined] at decoded
  cases decoded
  split
  · rw [encodeBus_decodeWrite]
    exact decodeAccess_write _ aligned
  · rw [encodeBus_decodeRead]
    exact decodeAccess_read 0 aligned

/-! ### Acceptance -/

/-- R35: a write of `CTRL` leaves the host's program, what the host was told and the reset input as they
are. -/
theorem State.control_host (m : Word) (s : State) :
    (s.control m).pending = s.pending ∧ (s.control m).replies = s.replies
      ∧ (s.control m).resetIn = s.resetIn := by
  refine State.control_keeps (fun u => u.pending = s.pending ∧ u.replies = s.replies ∧ u.resetIn = s.resetIn) m
    ?_ ?_ ?_ ?_ ?_ ?ack ?_ ?_ ⟨rfl, rfl, rfl⟩
  case ack =>
    intro u same
    rcases u.acknowledge_cases with ⟨-, done⟩ | ⟨-, -, done⟩
    · rw [done]
      exact same
    · rwa [done]
  all_goals exact fun _ same => same

/-- An accepted access leaves what the host has yet to issue as it is. -/
@[simp] theorem effectOf_pending (i : Instr) (s : State) : (effectOf i s).pending = s.pending := by
  cases i with
  | wrCtrl m =>
    obtain ⟨kept, -, -⟩ := s.control_host m
    exact kept
  | _ => rfl

/-- An accepted access leaves the reset input as it is. -/
@[simp] theorem effectOf_resetIn (i : Instr) (s : State) : (effectOf i s).resetIn = s.resetIn := by
  cases i with
  | wrCtrl m =>
    obtain ⟨-, -, kept⟩ := s.control_host m
    exact kept
  | _ => rfl

/-- R69: outside `BUSY` every access is accepted, a read of `STATUS` included. -/
theorem exec_of_ready (access : isCommand i = false) (ready : s.state ≠ .busy) :
    exec i s = .next (effectOf i s) := by
  by_cases status : i = .rdStatus
  · subst status
    rfl
  · rw [exec_of_held access status, s.access_of_not_busy i (effectOf i) ready]

/-- R69: outside `BUSY` two accesses of equal effect are the same to the machine. -/
theorem exec_eq_of_effectOf_eq {j : Instr} (ready : s.state ≠ .busy) (access : isCommand i = false)
    (access' : isCommand j = false) (effects : effectOf i s = effectOf j s) : exec i s = exec j s := by
  rw [exec_of_ready access ready, exec_of_ready access' ready, effects]

/-! ### The step that runs it -/

/-- R62: where neither reset nor a completion goes first, the host's next access is the next event. -/
theorem State.nextEvent_access (noReset : s.resetIn.head? ≠ some true) (notDue : ¬(s.state = .busy ∧ s.delay = 0))
    (next : s.pending = a :: rest) : s.nextEvent = .access a := by
  rw [State.nextEvent, if_neg noReset, if_neg notDue, next]

/-- R62: such a step runs the instruction that the access decodes to. -/
theorem step_of_decoded (noReset : s.resetIn.head? ≠ some true) (notDue : ¬(s.state = .busy ∧ s.delay = 0))
    (next : s.pending = a :: rest) (decoded : decodeAccess a = .ok i) : step s = exec i s.tick.pop := by
  simp only [step, State.nextEvent_access noReset notDue next, decoded]

/-- R63: such a step refuses an access outside the interface. -/
theorem step_of_refused {e : AccessError} (noReset : s.resetIn.head? ≠ some true)
    (notDue : ¬(s.state = .busy ∧ s.delay = 0)) (next : s.pending = a :: rest)
    (refused : decodeAccess a = .error e) : step s = .refused (refusalOf e) := by
  simp only [step, State.nextEvent_access noReset notDue next, refused]

end Sys2Proof.Machine
end

section
/-! The statements of `20_memory.md` about one access and the step that runs it. -/

namespace Sys2Proof.Machine

/-- Settles O41: every access but a read of `STATUS` has the shape that `BUSY` holds, and outside `BUSY` its
effect leaves the host's program alone. -/
theorem busyHoldsAllButStatusReads : Obligations.BusyHoldsAllButStatusReads := by
  intro i s access
  refine ⟨fun busy held => ?_, fun ready => ?_⟩
  · rw [exec_of_held access held, s.access_of_busy i (effectOf i) busy]
    rfl
  · exact ⟨effectOf i s, exec_of_ready access ready, effectOf_pending i s⟩

/-- Settles O40: the rule's offsets are those of the two default rows. -/
theorem unmappedAndOneWayOffsets : Obligations.UnmappedAndOneWayOffsets := by
  refine ⟨fun off listed s v ready => ?_, fun off listed s v ready => ?_⟩
  · have row : off ∈ noEffectOffsets := (show (_ : List Offset) ⊆ noEffectOffsets by decide) listed
    rw [decodeAccess_write v (Laws.noEffectOffsets_aligned off row), decodeWrite_of_noEffect row]
    exact ⟨rfl, exec_of_ready rfl ready⟩
  · have row : off ∈ readsZeroOffsets := (show (_ : List Offset) ⊆ readsZeroOffsets by decide) listed
    rw [decodeAccess_read v (Laws.readsZeroOffsets_aligned off row), decodeRead_of_readsZero row]
    exact ⟨rfl, exec_of_ready rfl ready⟩

/-- Settles O42: the effect of each of these writes takes the low bits of the word and no others. -/
theorem upperWriteBitsAreIgnored : Obligations.UpperWriteBitsAreIgnored := by
  intro s v v' ready
  refine ⟨fun low => ?_, fun low => ?_, fun bit => ?_⟩
  · have unit : v.extractLsb' 0 16 = v'.extractLsb' 0 16 := by
      rwa [BitVec.setWidth_eq_extractLsb' (by decide), BitVec.setWidth_eq_extractLsb' (by decide)] at low
    refine ⟨?_, ?_, ?_, ?_⟩ <;> apply exec_eq_of_effectOf_eq ready rfl rfl
    · simp only [effectOf, State.pushPw, unit]
    · simp only [effectOf, State.pushUser, unit]
    · simp only [effectOf, State.pushDom, unit]
    · simp only [effectOf, unit]
  · have byte : v.extractLsb' 0 8 = v'.extractLsb' 0 8 := by
      rwa [BitVec.setWidth_eq_extractLsb' (by decide), BitVec.setWidth_eq_extractLsb' (by decide)] at low
    refine ⟨?_, ?_⟩ <;> apply exec_eq_of_effectOf_eq ready rfl rfl
    · simp only [effectOf, State.pushData, byte]
    · simp only [effectOf, State.pushCh, byte]
  · apply exec_eq_of_effectOf_eq ready rfl rfl
    simp only [effectOf, bit]

/-- Settles O44, by the host's access being the next event. -/
theorem stepRunsTheDecodedAccess : Obligations.StepRunsTheDecodedAccess := by
  intro s a rest i noReset notDue next decoded
  rw [step_of_decoded noReset notDue next decoded, State.pop, State.tick, next]
  rfl

/-- Settles O49, by the three checks of the decoder in their order. -/
theorem accessesOutsideTheInterfaceAreRefused : Obligations.AccessesOutsideTheInterfaceAreRefused := by
  intro s a rest noReset notDue next
  refine ⟨fun width => ?_, fun width misaligned => ?_, fun width aligned outside => ?_⟩
  · exact step_of_refused noReset notDue next (e := .accessWidth a.width) (by rw [decodeAccess, if_pos width])
  · exact step_of_refused noReset notDue next (e := .misaligned a.off)
      (by rw [decodeAccess, if_neg (not_not.mpr width), if_pos misaligned])
  · exact step_of_refused noReset notDue next (e := .outsideWindow a.off)
      (by rw [decodeAccess, if_neg (not_not.mpr width), if_neg (not_not.mpr aligned), if_pos outside])

end Sys2Proof.Machine
end

section
/-! A running command completed at once: what that is, and that it is a matter of CORE's own state alone (R21,
R93). -/

namespace Sys2Proof.Machine

variable {s t : State}

/-! ### What CORE's own state decides -/

/-- R21: what a command evaluates to is decided by CORE's own state. -/
theorem evalOf_core (i : Instr) (s : State) : evalOf i s.core = evalOf i s := by
  cases i <;> rfl

theorem State.acknowledge_core (s : State) : s.acknowledge.core = s.core.acknowledge :=
  apply_ite State.core _ _ _

theorem State.finish_core (r : CmdOutcome) (s : State) : (s.finish r).core = (s.core.finish r).core := by
  cases r <;> rfl

@[simp] theorem State.finish_replies (r : CmdOutcome) (s : State) : (s.finish r).replies = s.replies := by
  cases r <;> rfl

/-- R35: what a write of `CTRL` does to CORE is decided by CORE's own state. -/
theorem State.control_core (m : Word) (s : State) : (s.control m).core = s.core.control m := by
  refine State.control_rel (R := fun u v => u.core = v) m ?_ rfl
  simp only [ctrlActions, List.forall_mem_cons, List.not_mem_nil, false_implies, implies_true, and_true]
  refine ⟨?_, ?_, ?_, ?_, ?_, ?ack, ?_, ?_⟩
  case ack =>
    rintro u _ rfl
    exact u.acknowledge_core
  all_goals
    rintro u _ rfl
    rfl

/-- R21: what an accepted access does to CORE is decided by CORE's own state. -/
theorem effectOf_core (i : Instr) (s : State) : (effectOf i s).core = (effectOf i s.core).core := by
  cases i with
  | wrCtrl m => exact (s.control_core m).trans (s.core.control_core m).symm
  | _ => rfl

/-- R68: what an accepted access tells the host comes after what the host has been told, and is decided by
CORE's own state. -/
theorem effectOf_replies (i : Instr) (s : State) :
    (effectOf i s).replies = s.replies ++ (effectOf i s.core).replies := by
  cases i with
  | wrCtrl m =>
    obtain ⟨-, kept, -⟩ := s.control_host m
    obtain ⟨-, silent, -⟩ := s.core.control_host m
    exact kept.trans (silent ▸ s.replies.append_nil.symm)
  | rdCmd | rdStatus | rdIen | rdOffset | rdPwlen | rdUserlen | rdDomlen | rdDatalen | rdChlen | rdOut0
  | rdOut1 | rdOut2 | rdOut3 | rdOut4 | rdOut5 | rdReadsZero => rfl
  | _ => exact s.replies.append_nil.symm

/-! ### The running command completed -/

/-- R93, R97: the outcome of the command word in `CMD`. -/
def State.outcome (s : State) : CmdOutcome :=
  match decodeCommand s.cmd with
  | .ok i => evalOf i s
  | .error _ => .fail .preconditionViolation

theorem State.outcome_of_legal {i : Instr} (legal : decodeCommand s.cmd = .ok i) : s.outcome = evalOf i s := by
  rw [State.outcome, legal]

theorem State.outcome_of_illegal {e : IllegalWord} (illegal : decodeCommand s.cmd = .error e) :
    s.outcome = .fail .preconditionViolation := by
  rw [State.outcome, illegal]

/-- R21: the outcome is decided by CORE's own state. -/
theorem State.outcome_core (s : State) : s.core.outcome = s.outcome := by
  cases decoded : decodeCommand s.cmd with
  | ok i => rw [State.outcome_of_legal decoded, State.outcome_of_legal (s := s.core) decoded, evalOf_core]
  | error e => rw [State.outcome_of_illegal decoded, State.outcome_of_illegal (s := s.core) decoded]

/-- R69: the state with its running command, if there is one, completed at once. -/
def State.settled (s : State) : State := if s.state = .busy then s.finish s.outcome else s

theorem State.settled_of_busy (busy : s.state = .busy) : s.settled = s.finish s.outcome := if_pos busy

theorem State.settled_of_ready (ready : s.state ≠ .busy) : s.settled = s := if_neg ready

/-- R23: nothing runs once the running command is completed. -/
theorem State.settled_ready (s : State) : s.settled.state ≠ .busy := by
  by_cases busy : s.state = .busy
  · rw [State.settled_of_busy busy]
    rcases s.finish_state s.outcome with done | error
    · simp [done]
    · simp [error]
  · rwa [State.settled_of_ready busy]

/-- R93: a completion leaves the host's program and the reset input as they are. -/
theorem State.settled_host (s : State) : s.settled.pending = s.pending ∧ s.settled.resetIn = s.resetIn := by
  by_cases busy : s.state = .busy
  · rw [State.settled_of_busy busy]
    cases s.outcome <;> exact ⟨rfl, rfl⟩
  · rw [State.settled_of_ready busy]
    exact ⟨rfl, rfl⟩

/-- R93: a command as the one in `CMD` ends as its evaluation says. -/
theorem exec_of_running {i : Instr} (busy : s.state = .busy) (legal : decodeCommand s.cmd = .ok i) :
    exec i s = .next (s.finish (evalOf i s)) := by
  rcases exec_shape i s with ⟨-, shape⟩ | ⟨access, -⟩ | ⟨rfl, -⟩
  · rw [shape, State.complete_of_busy _ busy]
  · cases access.symm.trans (isCommand_of_decodeCommand legal)
  · cases isCommand_of_decodeCommand legal

/-- R93, R97: what the completion of the running command answers. -/
theorem completeNow_of_busy (busy : s.state = .busy) : completeNow s = .next s.settled := by
  rw [State.settled_of_busy busy]
  cases decoded : decodeCommand s.cmd with
  | ok i =>
    simp only [completeNow, decoded]
    rw [State.outcome_of_legal decoded, exec_of_running busy decoded]
  | error e =>
    simp only [completeNow, decoded]
    rw [State.outcome_of_illegal decoded]
    exact State.complete_of_busy _ busy

/-- R93: while no reset is applied, the step that finds a command's time over is its completion. -/
theorem step_of_due (noReset : s.resetIn.head? ≠ some true) (busy : s.state = .busy) (due : s.delay = 0) :
    step s = .next s.tick.settled := by
  have event : s.nextEvent = .complete s.cmd := by
    rw [State.nextEvent, if_neg noReset, if_pos ⟨busy, due⟩]
  rw [← completeNow_of_busy (s := s.tick) busy]
  simp only [step, event]
  rfl

/-- R306: while no reset is applied, the host presents nothing and the running command's time is not over, a
step is time passing. -/
theorem step_of_waiting (noReset : s.resetIn.head? ≠ some true) (busy : s.state = .busy) (notDue : s.delay ≠ 0)
    (nothing : s.pending = []) : step s = .next s.tick := by
  have event : s.nextEvent = .wait := by
    simp [State.nextEvent, noReset, busy, notDue, nothing]
  simp only [step, event]

/-- R69: a step that runs an access held by `BUSY` puts it back, encoded anew. -/
theorem step_of_held {a : BusAccess} {rest : List BusAccess} {i : Instr} (noReset : s.resetIn.head? ≠ some true)
    (busy : s.state = .busy) (notDue : s.delay ≠ 0) (next : s.pending = a :: rest) (decoded : decodeAccess a = .ok i)
    (held : i ≠ .rdStatus) : step s = .next (s.tick.pop.hold (encodeBus i)) := by
  rw [step_of_decoded noReset (fun due => notDue due.2) next decoded,
    exec_of_held (isCommand_of_decodeAccess decoded) held]
  exact State.access_of_busy _ _ busy

end Sys2Proof.Machine
end

section
/-! Every run of a host script against the machine that merges a command's start and completion (R69, R304,
R307): both go through the script access by access, and a state in which a command runs stands for the state in
which it has completed. -/

namespace Sys2Proof.Machine

variable {s t : State} {quiet : Prop}

/-! ### States that agree -/

/-- The same CORE, and where `quiet` holds, a host that has been told the same. -/
structure State.AgreesWith (quiet : Prop) (s t : State) : Prop where
  core : s.core = t.core
  replies : quiet → s.replies = t.replies

theorem State.AgreesWith.trans {u : State} (first : s.AgreesWith quiet t) (second : t.AgreesWith quiet u) :
    s.AgreesWith quiet u :=
  ⟨first.core.trans second.core, fun q => (first.replies q).trans (second.replies q)⟩

/-- R21, R68: an accepted access has the same effect on states that agree. -/
theorem State.AgreesWith.effectOf (same : s.AgreesWith quiet t) (i : Instr) :
    (effectOf i s).AgreesWith quiet (effectOf i t) where
  core := by rw [effectOf_core i s, same.core, ← effectOf_core i t]
  replies q := by rw [effectOf_replies i s, effectOf_replies i t, same.core, same.replies q]

/-- R93: a completion writes the same into states that agree. -/
theorem State.AgreesWith.finish (same : s.AgreesWith quiet t) (r : CmdOutcome) :
    (s.finish r).AgreesWith quiet (t.finish r) where
  core := by rw [s.finish_core, same.core, ← t.finish_core]
  replies q := by rw [s.finish_replies, t.finish_replies, same.replies q]

/-- R21, R93: the running command completes alike in states that agree. -/
theorem State.AgreesWith.settled (same : s.AgreesWith quiet t) : s.settled.AgreesWith quiet t.settled := by
  have sameState : s.state = t.state := State.state_of_core_eq same.core
  have sameOutcome : s.outcome = t.outcome := by rw [← s.outcome_core, same.core, t.outcome_core]
  by_cases busy : s.state = .busy
  · rw [State.settled_of_busy busy, State.settled_of_busy (sameState ▸ busy), sameOutcome]
    exact same.finish _
  · rw [State.settled_of_ready busy, State.settled_of_ready (sameState ▸ busy)]
    exact same

/-! ### The merged machine, on decoded scripts -/

/-- The host's accesses are, one by one, these instructions. -/
abbrev DecodesTo (script : List BusAccess) (is : List Instr) : Prop :=
  List.Forall₂ (fun a i => decodeAccess a = .ok i) script is

/-- R62: a script of the interface decodes. -/
theorem exists_decodesTo {script : List BusAccess} (defined : ∀ a ∈ script, a.wellFormed = true) :
    ∃ is, DecodesTo script is := by
  induction script with
  | nil => exact ⟨[], .nil⟩
  | cons a rest ih =>
    obtain ⟨first, others⟩ := List.forall_mem_cons.mp defined
    obtain ⟨is, decoded⟩ := ih others
    exact ⟨_, .cons (decodeAccess_of_wellFormed first) decoded⟩

/-- An instruction of the script is what some access of it decodes to. -/
theorem DecodesTo.exists_access {script : List BusAccess} {is : List Instr} (decoded : DecodesTo script is)
    {i : Instr} (mem : i ∈ is) : ∃ a ∈ script, decodeAccess a = .ok i := by
  induction decoded with
  | nil => cases mem
  | @cons a _ rest _ first _ ih =>
    rcases List.mem_cons.mp mem with rfl | later
    · exact ⟨a, List.mem_cons_self, first⟩
    · obtain ⟨b, listed, decodes⟩ := ih later
      exact ⟨b, List.mem_cons_of_mem a listed, decodes⟩

/-- The end of a script on the merged machine: each access takes effect and what it starts completes. -/
def mergedEnd (is : List Instr) (s : State) : State := is.foldl (fun u i => (effectOf i u).settled) s

/-- R69: what one access does on the merged machine. -/
theorem mergedAccess_of_decoded {a : BusAccess} {i : Instr} (decoded : decodeAccess a = .ok i)
    (ready : s.state ≠ .busy) : mergedAccess a s = .next (effectOf i s).settled := by
  simp only [mergedAccess, decoded, exec_of_ready (isCommand_of_decodeAccess decoded) ready]
  by_cases busy : (effectOf i s).state = .busy
  · rw [if_pos busy, completeNow_of_busy busy]
  · rw [if_neg busy, State.settled_of_ready busy]

/-- R69: what a script does on the merged machine. -/
theorem mergedRun_of_decodesTo {script : List BusAccess} {is : List Instr} (decoded : DecodesTo script is)
    (ready : s.state ≠ .busy) : mergedRun script s = .next (mergedEnd is s) := by
  induction decoded generalizing s with
  | nil => rfl
  | cons first _ ih =>
    simp only [mergedRun, mergedAccess_of_decoded first ready]
    exact ih (State.settled_ready _)

/-! ### The run -/

/-- The run from `s` reaches the end of its script in a state that agrees with `m`. -/
def State.EndsAs (quiet : Prop) (s m : State) : Prop :=
  ∃ n t, Host.Core.run Sys2Proof.core n s = .next t ∧ t.atEnd ∧ t.AgreesWith quiet m

theorem State.EndsAs.of_step {m : State} (next : step s = .next t) (ends : t.EndsAs quiet m) :
    s.EndsAs quiet m := by
  obtain ⟨n, u, run, done⟩ := ends
  refine ⟨n + 1, u, ?_, done⟩
  have next' : Sys2Proof.core.step s = .next t := next
  simp only [Host.Core.run, next']
  exact run

/-- What the induction on the script gives for the accesses after the first: from every state that has them
yet to issue, the run ends as the merged machine does. -/
def EndsMerged (quiet : Prop) (is : List Instr) : Prop :=
  ∀ s m : State, s.resetIn = [] → DecodesTo s.pending is → s.settled.AgreesWith quiet m →
    s.EndsAs quiet (mergedEnd is m)

/-- R69: where nothing runs, the host's next access is accepted, by both machines. -/
theorem State.EndsAs.of_ready {is : List Instr} {m : State} (later : ∀ i js, is = i :: js → EndsMerged quiet js)
    (noReset : s.resetIn = []) (ready : s.state ≠ .busy) (script : DecodesTo s.pending is)
    (same : s.AgreesWith quiet m) : s.EndsAs quiet (mergedEnd is m) := by
  cases next : s.pending with
  | nil =>
    rw [next] at script
    cases script
    exact ⟨0, s, rfl, ⟨next, ready⟩, same⟩
  | cons a rest =>
    rw [next] at script
    cases script with
    | @cons _ i _ js decoded others =>
      have accepted : step s = .next (effectOf i s.tick.pop) := by
        rw [step_of_decoded (by simp [noReset]) (fun due => ready due.1) next decoded]
        exact exec_of_ready (isCommand_of_decodeAccess decoded) ready
      have popped : s.tick.pop.AgreesWith quiet m := ⟨same.core, same.replies⟩
      refine .of_step accepted (later i js rfl _ _ ?_ ?_ (popped.effectOf i).settled)
      · simp [noReset]
      · simpa [next] using others

/-- R69: a read of `STATUS` is answered by both machines, and changes CORE in neither. -/
theorem State.AgreesWith.statusRead {m : State} (asked : ¬quiet) (same : s.settled.AgreesWith quiet m) :
    (Machine.effectOf .rdStatus s.tick.pop).settled.AgreesWith quiet (Machine.effectOf .rdStatus m).settled := by
  have read : (Machine.effectOf .rdStatus s.tick.pop).AgreesWith quiet s := ⟨rfl, fun q => absurd q asked⟩
  have merged : m.AgreesWith quiet (Machine.effectOf .rdStatus m) := ⟨rfl, fun q => absurd q asked⟩
  have ready : m.state ≠ .busy := State.state_of_core_eq same.core ▸ s.settled_ready
  rw [State.settled_of_ready (s := Machine.effectOf .rdStatus m) ready]
  exact (read.settled.trans same).trans merged

/-- R306, R69: while a command runs, time passes, reads of `STATUS` are answered and every other access
waits, until the command completes; CORE's own state is meanwhile the same. -/
theorem State.EndsAs.of_busy {is : List Instr} {m : State} (later : ∀ i js, is = i :: js → EndsMerged quiet js)
    (unasked : quiet → .rdStatus ∉ is) (noReset : s.resetIn = []) (busy : s.state = .busy)
    (script : DecodesTo s.pending is) (same : s.settled.AgreesWith quiet m) :
    s.EndsAs quiet (mergedEnd is m) := by
  have low : ∀ {u : State}, u.resetIn = [] → u.resetIn.head? ≠ some true := fun h => by simp [h]
  induction left : s.delay generalizing s with
  | zero =>
    obtain ⟨pending, resetIn⟩ := s.tick.settled_host
    have ticked : s.tick.AgreesWith quiet s := ⟨rfl, fun _ => rfl⟩
    refine .of_step (step_of_due (low noReset) busy left) ?_
    exact .of_ready later (by simp [resetIn, noReset]) s.tick.settled_ready (pending ▸ script)
      (ticked.settled.trans same)
  | succ d ih =>
    have notDue : s.delay ≠ 0 := by omega
    have noReset' : s.tick.resetIn = [] := by simp [noReset]
    have left' : s.tick.delay = d := by simp [left]
    cases next : s.pending with
    | nil =>
      have waited : s.tick.AgreesWith quiet s := ⟨rfl, fun _ => rfl⟩
      refine .of_step (step_of_waiting (low noReset) busy notDue next) ?_
      exact ih noReset' busy script (waited.settled.trans same) left'
    | cons a rest =>
      rw [next] at script
      cases script with
      | @cons _ i _ js decoded others =>
        have remaining : s.tick.pop.pending = rest := by simp [next]
        by_cases status : i = .rdStatus
        · subst status
          have asked : ¬quiet := fun q => unasked q List.mem_cons_self
          have answered : step s = .next (effectOf .rdStatus s.tick.pop) :=
            step_of_decoded (low noReset) (fun due => notDue due.2) next decoded
          exact .of_step answered (later _ js rfl _ _ noReset' (remaining ▸ others) (same.statusRead asked))
        · have kept : (s.tick.pop.hold (encodeBus i)).AgreesWith quiet s := ⟨rfl, fun _ => rfl⟩
          refine .of_step (step_of_held (low noReset) busy notDue next decoded status) ?_
          exact ih noReset' busy (.cons (decodeAccess_encodeBus decoded) (remaining ▸ others))
            (kept.settled.trans same) left'

/-- A state in which a command runs or none does: the two cases together. -/
theorem EndsMerged.of_later {is : List Instr} (unasked : quiet → .rdStatus ∉ is)
    (later : ∀ i js, is = i :: js → EndsMerged quiet js) : EndsMerged quiet is := by
  intro s m noReset script same
  by_cases busy : s.state = .busy
  · exact .of_busy later unasked noReset busy script same
  · exact .of_ready later noReset busy script (State.settled_of_ready busy ▸ same)

/-- R69, R307: every run of a script that no reset interrupts ends as the merged machine does. -/
theorem endsMerged (is : List Instr) (unasked : quiet → .rdStatus ∉ is) : EndsMerged quiet is := by
  induction is with
  | nil => exact .of_later unasked nofun
  | cons i js ih =>
    refine .of_later unasked ?_
    rintro _ _ ⟨⟩
    exact ih fun q mem => unasked q (List.mem_cons_of_mem i mem)

/-- Settles O57, by the simulation of the machine by the merged one, access by access. -/
theorem runsAgreeWithTheMergedMachine : Obligations.RunsAgreeWithTheMergedMachine := by
  intro s ready noReset defined
  obtain ⟨is, script⟩ := exists_decodesTo defined
  have unasked : (∀ a ∈ s.pending, decodeAccess a ≠ .ok .rdStatus) → .rdStatus ∉ is := by
    intro noStatus mem
    obtain ⟨a, listed, status⟩ := DecodesTo.exists_access script mem
    exact noStatus a listed status
  have same : s.settled.AgreesWith (∀ a ∈ s.pending, decodeAccess a ≠ .ok .rdStatus) { s with pending := [] } := by
    rw [State.settled_of_ready ready]
    exact ⟨rfl, fun _ => rfl⟩
  obtain ⟨n, t, run, ended, agrees⟩ := endsMerged is unasked s _ noReset script same
  exact ⟨n, t, _, run, ended, mergedRun_of_decodesTo script ready, agrees.core, agrees.replies⟩

end Sys2Proof.Machine
end

section
/-! The decoder and the encoder undo each other, on command words (R90, R95) and on accesses (R61, R62, R64, R99),
and which command words the decoder refuses (R97). -/

namespace Sys2Proof.Machine

variable {i : Instr} {w : Word} {a : BusAccess}

/-! ### The two formats apart -/

/-- R95: of a command word, both formats' decoder accepts what the decoder of words accepts. -/
theorem decode_cmdw_iff : decode (.cmdw w) = .ok i ↔ decodeCommand w = .ok i := by
  cases decoded : decodeCommand w <;> simp [decode, decoded, Except.mapError]

/-- R99: of an access, both formats' decoder accepts what the decoder of accesses accepts. -/
theorem decode_bus_iff : decode (.bus a) = .ok i ↔ decodeAccess a = .ok i := by
  cases decoded : decodeAccess a <;> simp [decode, decoded, Except.mapError]

/-- R90: a command is encoded as its word. -/
theorem encode_of_commandWord (word : commandWord i = some w) : encode i = .cmdw w := by
  rw [encode, word]

/-- R99: an instruction that is no command is encoded as its triple. -/
theorem encode_of_access (access : isCommand i = false) : encode i = .bus (encodeBus i) := by
  have wordless : commandWord i = none := by simpa [isCommand] using access
  rw [encode, wordless]

/-! ### Commands -/

/-- R95: a command's word decodes to that command. -/
theorem decodeCommand_of_commandWord (word : commandWord i = some w) : decodeCommand w = .ok i := by
  cases i with
  | keyexp | desenc | p16 | p24pw | p24p21 | md4 | responseLanman | responseNtlm1 | responseNtlm2
  | responseMd4Raw | avail =>
    cases word
    rfl
  | _ => cases word

/-- R95: what a command word decodes to is well formed and has that word. -/
theorem commandWord_of_decodeCommand (decoded : decodeCommand w = .ok i) :
    i.wellFormed = true ∧ commandWord i = some w := by
  have rows : ∀ row ∈ commandTable, row.2.wellFormed = true ∧ commandWord row.2 = some row.1 := by decide
  exact rows _ (decodeCommand_mem decoded)

/-! ### Accesses -/

/-- R61, R64: a well-formed access instruction decodes from its triple. -/
theorem decodeAccess_encodeBus_of_wellFormed (access : isCommand i = false) (defined : i.wellFormed = true) :
    decodeAccess (encodeBus i) = .ok i := by
  cases i with
  | keyexp | desenc | p16 | p24pw | p24p21 | md4 | responseLanman | responseNtlm1 | responseNtlm2
  | responseMd4Raw | avail => cases access
  | wrCmd v | wrCtrl v | wrIen v | wrPwPush v | wrUserPush v | wrDomPush v | wrDataPush v | wrChPush v
  | wrOffset v => exact decodeAccess_write v rfl
  | rdCmd | rdStatus | rdIen | rdOffset | rdPwlen | rdUserlen | rdDomlen | rdDatalen | rdChlen | rdOut0
  | rdOut1 | rdOut2 | rdOut3 | rdOut4 | rdOut5 => exact decodeAccess_read 0 rfl
  | wrNoEffect off v =>
    have listed : off ∈ noEffectOffsets := by simpa [Instr.wellFormed] using defined
    rw [← decodeWrite_of_noEffect listed v, encodeBus_decodeWrite]
    exact decodeAccess_write v (Laws.noEffectOffsets_aligned off listed)
  | rdReadsZero off =>
    have listed : off ∈ readsZeroOffsets := by simpa [Instr.wellFormed] using defined
    rw [← decodeRead_of_readsZero listed, encodeBus_decodeRead]
    exact decodeAccess_read 0 (Laws.readsZeroOffsets_aligned off listed)

/-- R61, R64: at an aligned offset of the window stands a writable register, or the default row admits the
offset. -/
theorem wellFormed_decodeWrite {off : Offset} (aligned : off.toNat % 4 = 0) (v : Word) :
    (decodeWrite off v).wellFormed = true := by
  have rows : ∀ row ∈ writeTable, (row.2 v).wellFormed = true := by simp [writeTable, Instr.wellFormed]
  have others : ∀ o : Offset, o.toNat % 4 = 0 → (writeTable.lookup o).isNone → o ∈ noEffectOffsets := by decide
  unfold decodeWrite
  split
  · exact rows _ (mem_of_lookup ‹_›)
  · next unlisted => simpa [Instr.wellFormed] using others off aligned (Option.isNone_iff_eq_none.mpr unlisted)

/-- R61, R64: at an aligned offset of the window stands a readable register, or the default row admits the
offset. -/
theorem wellFormed_decodeRead {off : Offset} (aligned : off.toNat % 4 = 0) :
    (decodeRead off).wellFormed = true := by
  have rows : ∀ row ∈ readTable, row.2.wellFormed = true := by decide
  have others : ∀ o : Offset, o.toNat % 4 = 0 → readTable.lookup o = none → o ∈ readsZeroOffsets := by decide
  unfold decodeRead
  split
  · exact rows _ (mem_of_lookup ‹_›)
  · next unlisted => simpa [Instr.wellFormed] using others off aligned unlisted

/-- R62: an access of the interface has width 4 and an aligned offset of the window. -/
theorem exists_offset_of_wellFormed (defined : a.wellFormed = true) :
    ∃ off : Offset, off.toNat % 4 = 0 ∧ a = ⟨a.dir, 4, off.toNat, a.value⟩ := by
  obtain ⟨dir, width, off, value⟩ := a
  simp only [BusAccess.wellFormed, Bool.and_eq_true, beq_iff_eq, decide_eq_true_eq] at defined
  obtain ⟨⟨rfl, aligned⟩, inside⟩ := defined
  have same : (BitVec.ofNat 7 off).toNat = off := Nat.mod_eq_of_lt inside
  exact ⟨BitVec.ofNat 7 off, by rwa [same], by rw [same]⟩

/-- R61, R62, R64: what an access decodes to is well formed and has that access as its triple, where a read's
meaningless word is zero. -/
theorem encodeBus_of_decodeAccess (decoded : decodeAccess a = .ok i) (zeroWord : a.dir = .read → a.value = 0) :
    i.wellFormed = true ∧ encodeBus i = a := by
  obtain ⟨off, aligned, shape⟩ := exists_offset_of_wellFormed (wellFormed_of_decodeAccess decoded)
  obtain ⟨dir, width, place, v⟩ := a
  cases shape
  cases dir with
  | write =>
    rw [decodeAccess_write v aligned] at decoded
    cases decoded
    exact ⟨wellFormed_decodeWrite aligned v, encodeBus_decodeWrite off v⟩
  | read =>
    obtain rfl : v = 0 := zeroWord rfl
    rw [decodeAccess_read 0 aligned] at decoded
    cases decoded
    exact ⟨wellFormed_decodeRead aligned, encodeBus_decodeRead off⟩

/-! ### Illegal command words -/

/-- R95: the legal command words. -/
def legalWords : List Word := commandTable.map Prod.fst

/-- R97: the four cases, read by the fields of R90. -/
def IllegalByField (w : Word) : Prop :=
  w.extractLsb' 7 25 ≠ 0
    ∨ (w.extractLsb' 0 4).toNat ∈ [0, 9, 10, 11, 12, 13, 14, 15]
    ∨ ((w.extractLsb' 0 4).toNat = 7 ∧ (w.extractLsb' 4 3).toNat ∈ [0, 5, 6, 7])
    ∨ ((w.extractLsb' 0 4).toNat ∈ [1, 2, 3, 4, 5, 6, 8] ∧ w.extractLsb' 4 3 ≠ 0)

/-- R95: the decoder refuses exactly the words without a row. -/
theorem decodeCommand_error_iff : (∃ e, decodeCommand w = .error e) ↔ w ∉ legalWords := by
  constructor
  · rintro ⟨e, refused⟩ listed
    have rows : ∀ row ∈ commandTable, decodeCommand row.1 = .ok row.2 := by decide
    obtain ⟨row, mem, rfl⟩ := List.mem_map.mp listed
    cases refused.symm.trans (rows row mem)
  · intro unlisted
    cases decoded : decodeCommand w with
    | error e => exact ⟨e, rfl⟩
    | ok i => exact absurd (List.mem_map_of_mem (decodeCommand_mem decoded)) unlisted

/-- R90: a word without a 1 in bits 31:7 is its low seven bits, the fields `VARIANT` and `OP`. -/
theorem eq_setWidth_of_reserved_zero (reserved : w.extractLsb' 7 25 = 0) :
    w = (w.extractLsb' 0 7).setWidth 32 := by
  apply BitVec.eq_of_toNat_eq
  have high : w.toNat / 128 % 2 ^ 25 = 0 := by
    simpa [Nat.shiftRight_eq_div_pow] using congrArg BitVec.toNat reserved
  have low : ((w.extractLsb' 0 7).setWidth 32).toNat = w.toNat % 128 := by
    simp
    omega
  rw [low]
  omega

/-- R97: the words without a row are those of the four cases. With a 1 in bits 31:7 a word is both; of the 128
others each is looked at. -/
theorem not_mem_legalWords_iff : w ∉ legalWords ↔ IllegalByField w := by
  by_cases reserved : w.extractLsb' 7 25 = 0
  · have low : ∀ v : BitVec 7, v.setWidth 32 ∉ legalWords ↔ IllegalByField (v.setWidth 32) := by
      unfold IllegalByField
      decide
    rw [eq_setWidth_of_reserved_zero reserved]
    exact low _
  · have rows : ∀ row ∈ commandTable, row.1.extractLsb' 7 25 = 0 := by decide
    have clear : ∀ v ∈ legalWords, v.extractLsb' 7 25 = 0 := List.forall_mem_map.mpr rows
    exact iff_of_true (fun listed => reserved (clear w listed)) (.inl reserved)

end Sys2Proof.Machine
end

section
/-! A command at its completion step: what it answers, what it reads (R93, R96), and that a running command comes
there (R306). -/

namespace Sys2Proof.Machine

variable {s t : State} {i : Instr}

/-! ### The completion step -/

/-- R93: while `BUSY`, a command's outcome is what it evaluates to. -/
theorem exec_of_command (command : isCommand i = true) (busy : s.state = .busy) :
    exec i s = .next (s.finish (evalOf i s)) := by
  rcases exec_shape i s with ⟨-, shape⟩ | ⟨access, -⟩ | ⟨rfl, -⟩
  · rw [shape, State.complete_of_busy _ busy]
  · cases command.symm.trans access
  · cases command

/-- R93, R268: the result registers are a matter of the outcome alone. -/
theorem State.sameResult_finish (r : CmdOutcome) (s t : State) : (s.finish r).sameResult (t.finish r) := by
  cases r with
  | ok b => exact ⟨rfl, rfl, rfl, rfl⟩
  | fail e => exact ⟨rfl, rfl, rfl, rfl⟩

/-- R25: the result registers are part of CORE's own state. -/
theorem State.sameResult_of_core_eq (same : s.core = t.core) : s.sameResult t := by
  change s.core.sameResult t.core
  rw [same]
  exact ⟨rfl, rfl, rfl, rfl⟩

/-- R93: a command that evaluates alike in two states ends alike. -/
theorem resultsAgree_of_evalOf_eq (command : isCommand i = true) (busy : s.state = .busy)
    (busy' : t.state = .busy) (same : evalOf i s = evalOf i t) : resultsAgree (exec i s) (exec i t) :=
  ⟨_, _, exec_of_command command busy, exec_of_command command busy',
    same ▸ State.sameResult_finish (evalOf i s) s t⟩

/-! ### What the commands read -/

/-- R32: whether `CH` is a challenge is a matter of its length. -/
theorem State.chOk_congr (length : s.ch.length = t.ch.length) : s.chOk = t.chOk := by
  rw [State.chOk, State.chOk, length]

/-- R32: the challenge is the contents of `CH`. -/
theorem State.ch8_congr (ch : s.ch = t.ch) : s.ch8 = t.ch8 := by
  rw [State.ch8, State.ch8, ch]

/-- R178: whether there is an identity is a matter of the two presence flags. -/
theorem State.identityPresent_congr (userV : s.userV = t.userV) (domV : s.domV = t.domV) :
    s.identityPresent = t.identityPresent := by
  rw [State.identityPresent, State.identityPresent, userV, domV]

/-- R96: the commands that read `DATA` and `CH`. -/
theorem evalOf_congr_data_ch (params : s.params = t.params) (data : s.data = t.data)
    (ovfData : s.ovfData = t.ovfData) (ch : s.ch = t.ch) (ovfCh : s.ovfCh = t.ovfCh) :
    ∀ i ∈ [Instr.desenc, .p24p21], evalOf i s = evalOf i t := by
  have chOk := State.chOk_congr (congrArg List.length ch)
  have ch8 := State.ch8_congr ch
  simp only [List.forall_mem_cons, List.not_mem_nil, false_implies, implies_true, and_true]
  refine ⟨?desenc, ?p24p21⟩
  case desenc => simp only [evalOf, evalDesenc, params, data, ovfData, chOk, ch8, ovfCh]
  case p24p21 => simp only [evalOf, evalP24p21, params, data, ovfData, chOk, ch8, ovfCh]

/-- R96: the commands that read `PW` and `CH`. -/
theorem evalOf_congr_pw_ch (params : s.params = t.params) (pw : s.pw = t.pw) (ovfPw : s.ovfPw = t.ovfPw)
    (ch : s.ch = t.ch) (ovfCh : s.ovfCh = t.ovfCh) :
    ∀ i ∈ [Instr.p16, .p24pw, .responseLanman, .responseNtlm1], evalOf i s = evalOf i t := by
  have chOk := State.chOk_congr (congrArg List.length ch)
  have ch8 := State.ch8_congr ch
  simp only [List.forall_mem_cons, List.not_mem_nil, false_implies, implies_true, and_true]
  refine ⟨?p16, ?p24pw, ?lanman, ?ntlm1⟩
  case p16 => simp only [evalOf, evalP16, params, pw, ovfPw, chOk, ch8, ovfCh]
  case p24pw => simp only [evalOf, evalP24pw, params, pw, ovfPw, chOk, ch8, ovfCh]
  case lanman =>
    simp only [evalOf, evalResponseLanman, State.response, response, params, pw, ovfPw, chOk, ch8, ovfCh]
  case ntlm1 =>
    simp only [evalOf, evalResponseNtlm1, State.response, response, params, pw, ovfPw, chOk, ch8, ovfCh]

/-! ### On the way to the completion step -/

/-- Time is not part of CORE's own state. -/
@[simp] theorem State.tick_core (s : State) : s.tick.core = s.core := by
  unfold State.core
  rfl

/-- The host's program is not part of CORE's own state. -/
@[simp] theorem State.pop_core (s : State) : s.pop.core = s.core := rfl

/-- R69: to be held changes nothing of CORE's own state. -/
@[simp] theorem State.hold_core (a : BusAccess) (s : State) : (s.hold a).core = s.core := rfl

/-- R68: a read changes nothing of CORE's own state. -/
@[simp] theorem State.readRegister_core (off : Offset) (s : State) : (s.readRegister off).core = s.core := rfl

/-- R306, R69: while a command's time is not over and no reset is applied, a step leaves CORE as it is, takes one
off the time, and leaves the host a script of the interface. -/
theorem step_of_running (noReset : s.resetIn = []) (busy : s.state = .busy) (notDue : s.delay ≠ 0)
    (defined : s.scriptDefined) :
    ∃ t, step s = .next t ∧ t.core = s.core ∧ t.delay = s.delay - 1 ∧ t.resetIn = [] ∧ t.scriptDefined := by
  have low : s.resetIn.head? ≠ some true := by simp [noReset]
  have low' : s.tick.resetIn = [] := by simp [noReset]
  cases next : s.pending with
  | nil => exact ⟨_, step_of_waiting low busy notDue next, rfl, rfl, low', defined⟩
  | cons a rest =>
    rw [State.scriptDefined, next] at defined
    obtain ⟨first, others⟩ := List.forall_mem_cons.mp defined
    have others' : s.tick.pop.scriptDefined := by simpa [State.scriptDefined, next] using others
    obtain ⟨i, decoded⟩ : ∃ i, decodeAccess a = .ok i := ⟨_, decodeAccess_of_wellFormed first⟩
    by_cases status : i = .rdStatus
    · subst status
      have answered : step s = .next (effectOf .rdStatus s.tick.pop) :=
        step_of_decoded low (fun due => notDue due.2) next decoded
      exact ⟨_, answered, by simp [effectOf], rfl, low', others'⟩
    · refine ⟨_, step_of_held low busy notDue next decoded status, by simp, rfl, low', ?_⟩
      exact List.forall_mem_cons.mpr
        ⟨wellFormed_of_decodeAccess (decodeAccess_encodeBus decoded), others'⟩

/-- R93, R306: a running command's time and one step lead to its completion, as far as CORE goes. -/
theorem run_to_completion (busy : s.state = .busy) (noReset : s.resetIn = []) (defined : s.scriptDefined) :
    ∃ t, Host.Core.run core (s.delay + 1) s = .next t ∧ t.core = s.settled.core := by
  induction left : s.delay generalizing s with
  | zero =>
    have completed : core.step s = .next s.tick.settled := step_of_due (by simp [noReset]) busy left
    have ticked : s.tick.AgreesWith False s := ⟨rfl, nofun⟩
    exact ⟨_, by simp only [Host.Core.run, completed], ticked.settled.core⟩
  | succ d ih =>
    obtain ⟨u, next, same, time, noReset', defined'⟩ := step_of_running noReset busy (by omega) defined
    have next' : core.step s = .next u := next
    have waited : u.AgreesWith False s := ⟨same, nofun⟩
    obtain ⟨t, run, ended⟩ :=
      ih ((State.state_of_core_eq same).trans busy) noReset' defined' (by omega)
    exact ⟨t, by simpa only [Host.Core.run, next'] using run, ended.trans waited.settled.core⟩

end Sys2Proof.Machine
end

section
/-! The statements of `30_encoding.md`. -/

namespace Sys2Proof.Machine

/-- Settles O2: a command by its word, every other instruction by its triple. -/
theorem decodeAfterEncode : Obligations.DecodeAfterEncode := by
  intro i defined
  cases word : commandWord i with
  | some w =>
    rw [encode_of_commandWord word, decode_cmdw_iff]
    exact decodeCommand_of_commandWord word
  | none =>
    have access : isCommand i = false := by rw [isCommand, word, Option.isSome_none]
    rw [encode_of_access access, decode_bus_iff]
    exact decodeAccess_encodeBus_of_wellFormed access defined

/-- Settles O56, by induction on the time left: until it is over CORE stays as it is, so what completes is what
would have completed at once. -/
theorem everyCommandCompletes : Obligations.EveryCommandCompletes := by
  intro s busy noReset defined
  obtain ⟨t, run, ended⟩ := run_to_completion busy noReset defined
  have finished : t.core = (s.finish s.outcome).core := by rw [ended, State.settled_of_busy busy]
  refine ⟨t, _, run, completeNow_of_busy busy, ?operands, ?cmd, ?result, ?state⟩
  case operands =>
    have kept : s.sameOperands (s.finish s.outcome).core := s.sameOperands_finish s.outcome
    rw [← finished] at kept
    exact kept
  case cmd => rw [State.cmd_of_core_eq finished, State.finish_cmd]
  case result => exact State.sameResult_of_core_eq ended
  case state =>
    rw [State.state_of_core_eq finished]
    exact s.finish_state s.outcome

/-- Settles O3, format by format. -/
theorem encodeAfterDecode : Obligations.EncodeAfterDecode := by
  intro e i decoded zeroWord
  cases e with
  | cmdw w =>
    obtain ⟨defined, word⟩ := commandWord_of_decodeCommand (decode_cmdw_iff.mp decoded)
    exact ⟨defined, encode_of_commandWord word⟩
  | bus a =>
    have decoded' := decode_bus_iff.mp decoded
    obtain ⟨defined, encoded⟩ := encodeBus_of_decodeAccess decoded' (zeroWord a rfl)
    exact ⟨defined, by rw [encode_of_access (isCommand_of_decodeAccess decoded'), encoded]⟩

/-- Settles O4: the refused words are those without a row, and these are the four cases. -/
theorem illegalWordsByField : Obligations.IllegalWordsByField :=
  fun _ => decodeCommand_error_iff.trans not_mem_legalWords_iff

/-- Settles O6: a write of `CMD` is accepted as `State.start`, or held. -/
theorem wrCmdStartsCommand : Obligations.WrCmdStartsCommand := by
  intro s w
  refine ⟨fun ready => ⟨Config.latency s w, exec_of_ready rfl ready⟩, fun busy => ?_⟩
  obtain ⟨held, -⟩ := busyHoldsAllButStatusReads (.wrCmd w) s rfl
  exact held busy nofun

/-- Settles O5: an illegal word is started as every word is, and its outcome is the failure. -/
theorem illegalWordCompletesWithPreconditionViolation :
    Obligations.IllegalWordCompletesWithPreconditionViolation := by
  intro s w
  obtain ⟨started, -⟩ := wrCmdStartsCommand s w
  refine ⟨not_mem_legalWords_iff, fun unlisted => ⟨started, ?_⟩⟩
  rintro busy due noReset rfl
  obtain ⟨e, illegal⟩ := decodeCommand_error_iff.mpr unlisted
  have outcome : s.tick.outcome = .fail .preconditionViolation := State.outcome_of_illegal illegal
  rw [step_of_due noReset busy due, State.settled_of_busy (s := s.tick) busy, outcome, due]
  rfl

/-- Settles O45: such a step is the completion of the running command, which is that instruction. -/
theorem stepRunsTheDecodedCommand : Obligations.StepRunsTheDecodedCommand := by
  intro s i noReset busy due legal
  have ticked : s.tick = { s with resetIn := s.resetIn.tail } := by simp only [State.tick, due]
  calc step s = .next s.tick.settled := step_of_due noReset busy due
    _ = .next (s.tick.finish (evalOf i s.tick)) := by
      rw [State.settled_of_busy (s := s.tick) busy, State.outcome_of_legal (s := s.tick) legal]
    _ = exec i s.tick := (exec_of_running (s := s.tick) busy legal).symm
    _ = exec i { s with resetIn := s.resetIn.tail } := by rw [ticked]

/-- Settles O21: each command evaluates alike in two states that agree on what it reads. -/
theorem commandsReadOnlyTheirOperands : Obligations.CommandsReadOnlyTheirOperands := by
  intro s t busy busy' params
  have agree : ∀ {i}, isCommand i = true → evalOf i s = evalOf i t → resultsAgree (exec i s) (exec i t) :=
    fun command => resultsAgree_of_evalOf_eq command busy busy'
  refine ⟨?keyexp, ?dataCh, ?pwCh, ?md4, ?md4Raw, ?ntlm2, ?avail⟩
  case keyexp =>
    rintro ⟨data, ovfData, offset⟩
    exact agree rfl (by simp only [evalOf, evalKeyexp, data, ovfData, offset])
  case dataCh =>
    rintro ⟨data, ovfData, ch, ovfCh⟩ i listed
    have commands : ∀ i ∈ [Instr.desenc, .p24p21], isCommand i = true := by decide
    exact agree (commands i listed) (evalOf_congr_data_ch params data ovfData ch ovfCh i listed)
  case pwCh =>
    rintro ⟨pw, ovfPw, ch, ovfCh⟩ i listed
    have commands : ∀ i ∈ [Instr.p16, .p24pw, .responseLanman, .responseNtlm1], isCommand i = true := by decide
    exact agree (commands i listed) (evalOf_congr_pw_ch params pw ovfPw ch ovfCh i listed)
  case md4 =>
    rintro ⟨data, ovfData⟩
    exact agree rfl (by simp only [evalOf, evalMd4, params, data, ovfData])
  case md4Raw =>
    rintro ⟨pw, ovfPw, chLength, ovfCh⟩
    have chOk := State.chOk_congr chLength
    exact agree rfl
      (by simp only [evalOf, evalResponseMd4Raw, State.response, response, params, pw, ovfPw, chOk, ovfCh])
  case ntlm2 =>
    rintro ⟨pw, ovfPw, chLength, ovfCh, user, userV, ovfUser, dom, domV, ovfDom⟩
    have chOk := State.chOk_congr chLength
    have identity := State.identityPresent_congr userV domV
    exact agree rfl (by simp only [evalOf, evalResponseNtlm2, State.response, response, params, pw, ovfPw, chOk,
      ovfCh, identity, user, ovfUser, dom, ovfDom])
  case avail => exact agree rfl (by simp only [evalOf, evalAvail, params])

/-- Settles O1, by evaluation of the decoder on the words and accesses it names. -/
theorem writtenWordsDecode : Obligations.WrittenWordsDecode := by
  unfold Obligations.WrittenWordsDecode
  decide

end Sys2Proof.Machine
end

section
/-! `KEX` as a map between two streams of 56 bits (R120, R121), and what `KEYEXP` evaluates to (R122, R124). -/

namespace Sys2Proof.Machine

/-! ### The two streams of 56 bits -/

/-- R121: bit `n` of the source stream, the most significant bit of byte 0 first. -/
def sourceBit (s : Bytes 7) (n : Nat) : Bool := (s.toList.getD (n / 8) 0).getLsbD (7 - n % 8)

/-- R121: bit `n` of the key stream, the seven high bits of each byte, those of byte 0 first. -/
def keyBit (k : Bytes 8) (n : Nat) : Bool := (k.toList.getD (n / 7) 0).getLsbD (7 - n % 7)

/-- The source stream has every bit of the source: bit `7 - t` of byte `i` at `8i + t`. -/
theorem sourceBit_at (s : Bytes 7) {i t : Nat} (hi : i < 7) (ht : t < 8) :
    sourceBit s (8 * i + t) = s[i].getLsbD (7 - t) := by
  have byte : (8 * i + t) / 8 = i := by omega
  have bit : (8 * i + t) % 8 = t := by omega
  simp [sourceBit, byte, bit, hi]

/-- The key stream has every bit of the key but the lowest of each byte: bit `7 - t` of byte `j` at `7j + t`. -/
theorem keyBit_at (k : Bytes 8) {j t : Nat} (hj : j < 8) (ht : t < 7) :
    keyBit k (7 * j + t) = k[j].getLsbD (7 - t) := by
  have byte : (7 * j + t) / 7 = j := by omega
  have bit : (7 * j + t) % 7 = t := by omega
  simp [keyBit, byte, bit, hj]

/-- A source is its stream. -/
theorem eq_of_sourceBit_eq {s s' : Bytes 7} (same : ∀ n < 56, sourceBit s n = sourceBit s' n) : s = s' := by
  ext i hi b hb
  have place : b = 7 - (7 - b) := by omega
  rw [← BitVec.getLsbD_eq_getElem, ← BitVec.getLsbD_eq_getElem, place,
    ← sourceBit_at s hi (by omega), ← sourceBit_at s' hi (by omega)]
  exact same _ (by omega)

/-- A key is its stream and the low bits of its bytes. -/
theorem eq_of_keyBit_eq {k k' : Bytes 8} (low : ∀ j : Fin 8, k[j].getLsbD 0 = k'[j].getLsbD 0)
    (same : ∀ n < 56, keyBit k n = keyBit k' n) : k = k' := by
  ext j hj b hb
  rw [← BitVec.getLsbD_eq_getElem, ← BitVec.getLsbD_eq_getElem]
  by_cases lowest : b = 0
  · subst lowest
    exact low ⟨j, hj⟩
  · have place : b = 7 - (7 - b) := by omega
    rw [place, ← keyBit_at k hj (by omega), ← keyBit_at k' hj (by omega)]
    exact same _ (by omega)

/-! ### From source to key -/

/-- R120, stage 1, for every `j` alike: the low `j` bits of `a` above the high `7 - j` bits of `b`. -/
def septet (j : Nat) (a b : Byte) : Byte := ((a &&& BitVec.ofNat 8 (2 ^ j - 1)) <<< (7 - j)) ||| (b >>> (j + 1))

/-- Septet `j` straddles source bytes `j - 1` and `j`; at the two ends one of them has no part in it. -/
theorem kexSeptets_getElem (s : Bytes 7) (j : Fin 8) :
    (kexSeptets s)[j] = septet j (s.toList.getD (j - 1) 0) (s.toList.getD j 0) := by
  fin_cases j <;> simp [kexSeptets, septet]

/-- Counted from the top of its seven bits, a septet shows the low bits of `a` and then the high bits of `b`. -/
theorem septet_getLsbD (a b : Byte) {j t : Nat} (hj : j < 8) (ht : t < 7) :
    (septet j a b).getLsbD (6 - t) = if t < j then a.getLsbD (j - 1 - t) else b.getLsbD (7 + j - t) := by
  simp only [septet, BitVec.getLsbD_or, BitVec.getLsbD_shiftLeft, BitVec.getLsbD_and, BitVec.getLsbD_ofNat,
    Nat.testBit_two_pow_sub_one, BitVec.getLsbD_ushiftRight]
  split
  next upper =>
    have fromA : 6 - t - (7 - j) = j - 1 - t := by omega
    have pastB : b.getLsbD (j + 1 + (6 - t)) = false := BitVec.getLsbD_of_ge _ _ (by omega)
    have inByte : 6 - t < 8 ∧ 7 - j ≤ 6 - t ∧ j - 1 - t < 8 ∧ j - 1 - t < j := by omega
    simp [fromA, pastB, inByte]
  next lower =>
    have fromB : j + 1 + (6 - t) = 7 + j - t := by omega
    have belowA : 6 - t < 7 - j := by omega
    simp [fromB, belowA]

/-- R120, stage 2. -/
theorem kex_getElem (s : Bytes 7) (j : Fin 8) : (kex s)[j] = (kexSeptets s)[j] <<< 1 := by
  simp [kex]

/-- R125 (a): the shift leaves the lowest bit zero. -/
theorem kex_getLsbD_zero (s : Bytes 7) (j : Fin 8) : (kex s)[j].getLsbD 0 = false := by
  rw [kex_getElem]
  simp

/-- The seven high bits of an output byte are its septet's. -/
theorem kex_getLsbD_succ (s : Bytes 7) (j : Fin 8) {b : Nat} (hb : b < 7) :
    (kex s)[j].getLsbD (b + 1) = (kexSeptets s)[j].getLsbD b := by
  have inByte : b + 1 < 8 := by omega
  rw [kex_getElem, BitVec.getLsbD_shiftLeft]
  simp [inByte]

/-- R121: output byte `j` shows the source stream from bit `7j` on. -/
theorem kex_getLsbD (s : Bytes 7) (j : Fin 8) {t : Nat} (ht : t < 7) :
    (kex s)[j].getLsbD (7 - t) = sourceBit s (7 * j + t) := by
  have top : 7 - t = 6 - t + 1 := by omega
  rw [top, kex_getLsbD_succ s j (by omega), kexSeptets_getElem, septet_getLsbD _ _ j.isLt ht, sourceBit]
  split
  next upper =>
    have byte : (7 * j + t) / 8 = j - 1 := by omega
    have bit : 7 - (7 * j + t) % 8 = j - 1 - t := by omega
    rw [byte, bit]
  next lower =>
    have byte : (7 * j + t) / 8 = j := by omega
    have bit : 7 - (7 * j + t) % 8 = 7 + j - t := by omega
    rw [byte, bit]

/-- R121: `KEX` keeps the stream. -/
theorem keyBit_kex (s : Bytes 7) {n : Nat} (hn : n < 56) : keyBit (kex s) n = sourceBit s n := by
  have place : n = 7 * (n / 7) + n % 7 := by omega
  have hj : n / 7 < 8 := by omega
  have ht : n % 7 < 7 := by omega
  rw [place, keyBit_at _ hj ht]
  exact kex_getLsbD s ⟨n / 7, hj⟩ ht

/-! ### From key to source -/

/-- The source whose stream is the key's. -/
def kexSource (k : Bytes 8) : Bytes 7 :=
  Vector.ofFn fun i => BitVec.ofFnLE fun b => keyBit k (8 * i + (7 - b))

theorem sourceBit_kexSource (k : Bytes 8) {n : Nat} (hn : n < 56) : sourceBit (kexSource k) n = keyBit k n := by
  have place : n = 8 * (n / 8) + n % 8 := by omega
  have hi : n / 8 < 7 := by omega
  have ht : n % 8 < 8 := by omega
  have inByte : 7 - n % 8 < 8 := by omega
  have back : 7 - (7 - n % 8) = n % 8 := by omega
  rw [place, sourceBit_at _ hi ht]
  simp [kexSource, inByte, back]

/-- R121: a key of even bytes is `KEX` of the source of its stream. -/
theorem kex_kexSource {k : Bytes 8} (even : ∀ j : Fin 8, k[j].getLsbD 0 = false) : kex (kexSource k) = k := by
  apply eq_of_keyBit_eq
  · exact fun j => (kex_getLsbD_zero _ j).trans (even j).symm
  · exact fun n hn => (keyBit_kex _ hn).trans (sourceBit_kexSource k hn)

/-- R121: a source is determined by its key. -/
theorem kex_injective : Function.Injective kex := by
  intro s s' same
  refine eq_of_sourceBit_eq fun n hn => ?_
  rw [← keyBit_kex s hn, same, keyBit_kex s' hn]

/-! ### The command -/

/-- R122: what `KEYEXP` evaluates to where its operands are in order. -/
theorem evalKeyexp_of_slice {s : State} (noOverflow : s.ovfData = false)
    (inside : s.offset.toNat + 7 ≤ s.data.length) :
    evalKeyexp s = .ok (kex (slice 7 s.data s.offset.toNat)).toList := by
  simp [evalKeyexp, kexAt, noOverflow, inside]

/-- R122: `KEYEXP` fails on an overflowed or too short `DATA`. -/
theorem evalKeyexp_of_violation {s : State}
    (violation : s.ovfData = true ∨ s.data.length < s.offset.toNat + 7) :
    evalKeyexp s = .fail .preconditionViolation := by
  rcases violation with overflow | short
  · simp [evalKeyexp, overflow]
  · simp [evalKeyexp, short]

end Sys2Proof.Machine
end

section
/-! The statements of `40_key_expansion.md`. -/

namespace Sys2Proof.Machine

/-- Settles O23: `KEX` keeps the stream of 56 bits and sets the low bits to zero, and a source is its stream. -/
theorem kexSpreadsSevenBitGroups : Obligations.KexSpreadsSevenBitGroups := by
  refine ⟨fun s j t => kex_getLsbD s j t.isLt, kex_getLsbD_zero, fun s s' same => kex_injective same,
    fun k => ⟨?even, fun even => ⟨kexSource k, kex_kexSource even⟩⟩⟩
  rintro ⟨s, rfl⟩
  exact kex_getLsbD_zero s

/-- Settles O7: the evaluation decides between delivery and the error entry. -/
theorem keyexpResultOrError : Obligations.KeyexpResultOrError := by
  intro s busy
  have completed : exec .keyexp s = .next (s.finish (evalKeyexp s)) := exec_of_command rfl busy
  refine ⟨fun noOverflow inside => ?delivered, fun violation => ?failed⟩
  case delivered =>
    rw [completed, evalKeyexp_of_slice noOverflow inside, State.finish, State.deliver,
      fit_toList_append 8 16, Vector.length_toList]
    rfl
  case failed =>
    rw [completed, evalKeyexp_of_violation violation, State.finish, State.errorEntry]

end Sys2Proof.Machine
end

section
/-! DES (`41_des_ecb.md`): the laws of the table selection of R132, the bits of a key that the schedule of R138
reads, and what `DESENC` evaluates to (R145). -/

namespace Sys2Proof.Machine

/-! ### The table selection -/

/-- R132: a selection depends on the bits that its table names. -/
theorem select_congr {n : Nat} {x y : BitVec n} (m : Nat) {table : List Nat}
    (same : ∀ p ∈ table, x.getMsbD (p - 1) = y.getMsbD (p - 1)) : select m table x = select m table y := by
  rw [select, select, List.map_congr_left same]

/-- R132: a selection of a selection is the selection by the outer table read through the inner one. -/
theorem select_select {n k m : Nat} {inner outer : List Nat} (hk : inner.length = k) (hm : outer.length = m)
    (inside : ∀ p ∈ outer, p - 1 < k) (x : BitVec n) :
    select m outer (select k inner x) = select m (outer.map fun p => inner.getD (p - 1) 0) x := by
  apply BitVec.eq_of_getMsbD_eq
  intro i hi
  have named : outer[i]'(by omega) - 1 < k := inside _ (List.getElem_mem _)
  rw [select_getMsbD _ _ _ hm i hi, select_getMsbD _ _ _ hk _ named,
    select_getMsbD _ _ _ (by rw [List.length_map, hm]) i hi, List.getElem_map, List.getD_eq_getElem]

/-- R132: the table `1, 2, ..., n` selects the operand itself. -/
theorem select_range' {n : Nat} (x : BitVec n) : select n (List.range' 1 n) x = x := by
  apply BitVec.eq_of_getMsbD_eq
  intro i hi
  rw [select_getMsbD _ _ _ List.length_range' i hi, List.getElem_range', one_mul, Nat.add_sub_cancel_left]

/-- R134: two tables undo each other where the outer one reads `1, 2, ..., n` out of the inner one. -/
theorem select_undoes {n : Nat} {inner outer : List Nat} (hn : inner.length = n) (inside : ∀ p ∈ outer, p - 1 < n)
    (undone : (outer.map fun p => inner.getD (p - 1) 0) = List.range' 1 n) (x : BitVec n) :
    select n outer (select n inner x) = x := by
  have hm : outer.length = n := by simpa using congrArg List.length undone
  rw [select_select hn hm inside, undone, select_range']

/-! ### The key -/

/-- R131: DES bit `8j + t + 1` of eight bytes is bit `7 - t` of byte `j`; each byte after `j` starts beyond it. -/
theorem bitsOfBytes_getMsbD (b : Bytes 8) (j : Fin 8) {t : Nat} (ht : t < 8) :
    (bitsOfBytes b).getMsbD (8 * j + t) = b[j].getLsbD (7 - t) := by
  have first (c : Byte) : c.getMsbD t = c.getLsbD (7 - t) := by simp [BitVec.getMsbD, ht]
  rw [← first, bitsOfBytes]
  simp only [BitVec.getMsbD_append]
  fin_cases j <;> simp (disch := omega) [if_neg]

/-- R139: bytes that agree but for their lowest bits have the other bits in common. -/
theorem getLsbD_eq_of_ushiftRight_eq {a b : Byte} (same : a >>> 1 = b >>> 1) {n : Nat} (upper : 0 < n) :
    a.getLsbD n = b.getLsbD n := by
  have shifted := congrArg (BitVec.getLsbD · (n - 1)) same
  simpa [BitVec.getLsbD_ushiftRight, Nat.add_sub_cancel' upper] using shifted

/-- R138, R139: permuted choice 1 names key bits, and none of the bits 8, 16, ..., 64. -/
theorem pc1Table_no_parity : ∀ p ∈ pc1Table, p ≤ 64 ∧ p % 8 ≠ 0 := by decide

/-- R138, R139: the key schedule does not read the lowest bits of the key's bytes. -/
theorem keySchedule_congr {key key' : Bytes 8} (same : ∀ j : Fin 8, key[j] >>> 1 = key'[j] >>> 1) :
    keySchedule (bitsOfBytes key) = keySchedule (bitsOfBytes key') := by
  have choice : select 56 pc1Table (bitsOfBytes key) = select 56 pc1Table (bitsOfBytes key') := by
    refine select_congr 56 fun p named => ?_
    obtain ⟨inKey, noParity⟩ := pc1Table_no_parity p named
    have place : p - 1 = 8 * ((p - 1) / 8) + (p - 1) % 8 := by omega
    have hj : (p - 1) / 8 < 8 := by omega
    have ht : (p - 1) % 8 < 8 := by omega
    rw [place, bitsOfBytes_getMsbD key ⟨_, hj⟩ ht, bitsOfBytes_getMsbD key' ⟨_, hj⟩ ht]
    exact getLsbD_eq_of_ushiftRight_eq (same ⟨_, hj⟩) (by omega)
  rw [keySchedule, keySchedule, choice]

/-- R140: `DES_ENC` uses its key through the key schedule alone. -/
theorem desEnc_congr {key key' : Bytes 8} (same : keySchedule (bitsOfBytes key) = keySchedule (bitsOfBytes key'))
    (block : Bytes 8) : desEnc key block = desEnc key' block := by
  rw [desEnc, desEnc, desBits, desBits, same]

/-! ### The command -/

variable {s : State}

/-- A sequence of `n` bytes fits as it is. -/
theorem fit_self {n : Nat} (v : Bytes n) : fit n v.toList = v :=
  Vector.toList_inj.mp (fit_toList_of_length v.length_toList)

/-- R145: `DESENC` encrypts where its operands are in order. -/
theorem evalDesenc_of_operands {key block : Bytes 8} (present : s.params.hasDes = true)
    (ovfData : s.ovfData = false) (ovfCh : s.ovfCh = false) (data : s.data = key.toList)
    (ch : s.ch = block.toList) : evalDesenc s = .ok (desEnc key block).toList := by
  simp [evalDesenc, State.chOk, State.ch8, present, ovfData, ovfCh, data, ch, fit_self]

/-- R145: `DESENC` needs the DES engine, before anything else. -/
theorem evalDesenc_of_absent (absent : s.params.hasDes = false) :
    evalDesenc s = .fail .algorithmUnavailable := by
  simp [evalDesenc, absent]

/-- R145: `DESENC` fails on an overflow or a wrong block length, whatever the key. -/
theorem evalDesenc_of_violation (present : s.params.hasDes = true)
    (violation : s.ovfData = true ∨ s.ovfCh = true ∨ s.ch.length ≠ 8) :
    evalDesenc s = .fail .preconditionViolation := by
  rcases violation with overflow | overflow | blockLength
  · simp [evalDesenc, present, overflow]
  · simp [evalDesenc, present, overflow]
  · simp [evalDesenc, State.chOk, present, blockLength]

/-- R145: `DESENC` reports a wrong key length where the block is in order. -/
theorem evalDesenc_of_keyLength (present : s.params.hasDes = true) (ovfData : s.ovfData = false)
    (ovfCh : s.ovfCh = false) (blockLength : s.ch.length = 8) (keyLength : s.data.length ≠ 8) :
    evalDesenc s = .fail .invalidKey := by
  simp [evalDesenc, State.chOk, present, ovfData, ovfCh, blockLength, keyLength]

end Sys2Proof.Machine
end

section
/-! The statements of `41_des_ecb.md`. -/

namespace Sys2Proof.Machine

/-- Settles O24: permuted choice 1 leaves the parity bits out, and the key enters through it alone. -/
theorem desIgnoresParityBits : Obligations.DesIgnoresParityBits :=
  fun _ _ block same => desEnc_congr (keySchedule_congr same) block

/-- Settles O25: each table read through the other is `1, 2, ..., 64`. -/
theorem finalPermutationInvertsInitial : Obligations.FinalPermutationInvertsInitial := by
  have fpThroughIp : (fpTable.map fun p => ipTable.getD (p - 1) 0) = List.range' 1 64 := by decide
  have ipThroughFp : (ipTable.map fun p => fpTable.getD (p - 1) 0) = List.range' 1 64 := by decide
  exact fun x => ⟨select_undoes rfl (by decide) fpThroughIp x, select_undoes rfl (by decide) ipThroughFp x⟩

/-- Settles O8: the evaluation decides between delivery and the three error entries. -/
theorem desencResultOrError : Obligations.DesencResultOrError := by
  intro s busy
  have completed : exec .desenc s = .next (s.finish (evalDesenc s)) := exec_of_command rfl busy
  rw [completed]
  refine ⟨fun key block present ovfData ovfCh data ch => ?delivered, fun absent => ?noDes,
    fun present violation => ?violated, fun present ovfData ovfCh blockLength keyLength => ?badKey⟩
  case delivered =>
    rw [evalDesenc_of_operands present ovfData ovfCh data ch, State.finish, State.deliver,
      fit_toList_append 8 16, Vector.length_toList]
    rfl
  case noDes => rw [evalDesenc_of_absent absent, State.finish, State.errorEntry]
  case violated => rw [evalDesenc_of_violation present violation, State.finish, State.errorEntry]
  case badKey =>
    rw [evalDesenc_of_keyLength present ovfData ovfCh blockLength keyLength, State.finish, State.errorEntry]

end Sys2Proof.Machine
end

section
/-! The chaining sequencer (`42_p16_p24.md`): what `P14` takes of a password (R160), what the LM base hash shows
of it (R168), and what the three commands evaluate to (R165 to R167). -/

namespace Sys2Proof.Machine

/-! ### The fourteen bytes -/

/-- R160: `fit` reads no byte beyond the first `n`. -/
theorem fit_congr {n : Nat} {b b' : List Byte} (same : b.take n = b'.take n) : fit n b = fit n b' := by
  ext1 i hi
  have entry : (b.take n)[i]? = (b'.take n)[i]? := by rw [same]
  rw [List.getElem?_take_of_lt hi, List.getElem?_take_of_lt hi] at entry
  rw [fit_getElem, fit_getElem, List.getD_eq_getElem?_getD, List.getD_eq_getElem?_getD, entry]

/-- R160: the bytes of `P14`. -/
theorem p14_toList (pw : Text) :
    (p14 pw).toList = ((upcase pw).map narrow).take 14 ++ List.replicate (14 - (upcase pw).length) 0 := by
  rw [p14, fit_toList, List.length_map]

/-- R161: the password enters `P16` through `P14` alone. -/
theorem p16_congr {pw pw' : Text} (same : p14 pw = p14 pw') (seed : Bytes 8) : p16 pw seed = p16 pw' seed := by
  rw [p16, p16, same]

/-! ### Letters in two cases -/

/-- R171: a letter `A` to `Z` and its lower-case form are mapped alike. -/
theorem asciiUpper_add_of_upper {c : CodeUnit} (first : 0x0041 ≤ c) (last : c ≤ 0x005A) :
    asciiUpper (c + 0x0020) = asciiUpper c := by
  have lower : 0x0061 ≤ c + 0x0020 ∧ c + 0x0020 ≤ 0x007A := by bv_omega
  have notLower : ¬(0x0061 ≤ c ∧ c ≤ 0x007A) := by bv_omega
  rw [asciiUpper, asciiUpper, if_pos lower, if_neg notLower, BitVec.add_sub_cancel]

/-- R171: a letter `a` to `z` and its upper-case form are mapped alike. -/
theorem asciiUpper_sub_of_lower {c : CodeUnit} (first : 0x0061 ≤ c) (last : c ≤ 0x007A) :
    asciiUpper (c - 0x0020) = asciiUpper c := by
  have mapped : asciiUpper c = c - 0x0020 := if_pos ⟨first, last⟩
  rw [← mapped, asciiUpper_idem]

/-- R168: two texts whose units are mapped alike, place by place, are upper-cased alike. -/
theorem upcase_eq_of_units {t t' : Text} (length : t.length = t'.length)
    (units : ∀ i, asciiUpper (t.getD i 0) = asciiUpper (t'.getD i 0)) : upcase t = upcase t' := by
  apply upcase_congr
  apply List.ext_getElem (by simpa using length)
  intro i hi hi'
  rw [List.length_map] at hi hi'
  have unit := units i
  rw [List.getD_eq_getElem _ _ hi, List.getD_eq_getElem _ _ hi'] at unit
  rwa [List.getElem_map, List.getElem_map]

/-! ### The second half of a short password's hash -/

/-- R160: a password of at most 7 bytes leaves the second chunk of `P14` zero. -/
theorem slice_p14_of_short {pw : Text} (short : (upcase pw).length ≤ 7) : slice 7 (p14 pw).toList 7 = zeros 7 := by
  ext1 i hi
  have beyond : ((upcase pw).map narrow).length ≤ 7 + i := by
    rw [List.length_map]
    omega
  have padded : (p14 pw)[7 + i] = 0 := by
    rw [p14, fit_getElem, List.getD_eq_default _ _ beyond]
  rw [slice_getElem, zeros_getElem, ← padded, List.getD_eq_getElem _ _ (by simp; omega), Vector.getElem_toList]

/-- R168: the well-known seed under the key of seven zero bytes. -/
theorem desEnc_kex_zeros_kgs :
    (desEnc (kex (zeros 7)) kgs).toList = [0xAA, 0xD3, 0xB4, 0x35, 0xB5, 0x14, 0x04, 0xEE] := by decide +kernel

/-- R161: the second half of the LM base hash is the seed under the key of the second chunk. -/
theorem p16_toList_drop (pw : Text) (seed : Bytes 8) :
    (p16 pw seed).toList.drop 8 = (desEnc (kex (slice 7 (p14 pw).toList 7)) seed).toList := by
  rw [p16, p16OfP14, Vector.toList_append, List.drop_left' Vector.length_toList, kexAt]

/-! ### A command that needs one unit -/

variable {s : State}

/-- R262: the outcome of a command that needs one unit, fails with `PreconditionViolation` on any operand error,
and else delivers the bytes. -/
def CmdOutcome.checked (unit violation : Bool) (b : List Byte) : CmdOutcome :=
  if !unit then .fail .algorithmUnavailable else if violation then .fail .preconditionViolation else .ok b

/-- Two operand errors checked one after the other are one check. -/
theorem CmdOutcome.ite_fail_ite_fail (v w : Bool) (e : Err) (r : CmdOutcome) :
    (if v then .fail e else if w then .fail e else r) = if v || w then .fail e else r := by
  cases v <;> rfl

/-- R93, R268: what the completion step of such a command answers. -/
theorem exec_of_checked {i : Instr} {unit violation : Bool} {b : List Byte} (command : isCommand i = true)
    (busy : s.state = .busy) (eval : evalOf i s = .checked unit violation b) :
    (unit = true → violation = false → exec i s = .next (s.deliver b))
      ∧ (unit = false → exec i s = .next (s.errorEntry .algorithmUnavailable))
      ∧ (unit = true → violation = true → exec i s = .next (s.errorEntry .preconditionViolation)) := by
  rw [exec_of_command command busy, eval]
  refine ⟨?delivered, ?absent, ?violated⟩
  case delivered =>
    rintro rfl rfl
    rfl
  case absent =>
    rintro rfl
    rfl
  case violated =>
    rintro rfl rfl
    rfl

/-! ### The three commands -/

/-- R32: `CH` as eight bytes, where it holds just these. -/
theorem State.chOk_and_ch8_of_eq {v : Bytes 8} (ch : s.ch = v.toList) : s.chOk = true ∧ s.ch8 = v := by
  rw [State.chOk, State.ch8, ch, fit_self, Vector.length_toList]
  exact ⟨rfl, rfl⟩

/-- R165: `P16` needs DES, and `PW` and `CH` in order. -/
theorem evalOf_p16 (s : State) :
    evalOf .p16 s = .checked s.params.hasDes (s.ovfPw || s.ovfCh || !s.chOk) (p16 s.pw s.ch8).toList := by
  rw [CmdOutcome.checked, ← CmdOutcome.ite_fail_ite_fail]
  rfl

/-- R166: so does `P24PW`. -/
theorem evalOf_p24pw (s : State) :
    evalOf .p24pw s = .checked s.params.hasDes (s.ovfPw || s.ovfCh || !s.chOk) (p24pw s.pw s.ch8).toList := by
  rw [CmdOutcome.checked, ← CmdOutcome.ite_fail_ite_fail]
  rfl

/-- R167: `P24P21` needs DES, and `DATA` and `CH` in order. -/
theorem evalOf_p24p21 (s : State) :
    evalOf .p24p21 s = .checked s.params.hasDes (s.ovfData || s.ovfCh || s.data.length != 21 || !s.chOk)
      (p24 (fit 21 s.data) s.ch8).toList := by
  rw [CmdOutcome.checked, ← CmdOutcome.ite_fail_ite_fail, ← CmdOutcome.ite_fail_ite_fail]
  simp only [bne_iff_ne]
  rfl

end Sys2Proof.Machine
end

section
/-! The statements of `42_p16_p24.md`. -/

namespace Sys2Proof.Machine

/-- Settles O27: `P16` sees `P14`, which `fit` cuts; and `UPCASE` sees the mapped letters. -/
theorem lmHashSeesFourteenUpperCasedBytes : Obligations.LmHashSeesFourteenUpperCasedBytes := by
  refine ⟨fun pw pw' seed same => p16_congr (fit_congr same) seed, fun pw pw' seed length units => ?_⟩
  have upper : upcase pw = upcase pw' := by
    refine upcase_eq_of_units length fun i => ?_
    rcases units i with same | ⟨first, last, lowered⟩ | ⟨first, last, raised⟩
    · rw [same]
    · rw [lowered, asciiUpper_add_of_upper first last]
    · rw [raised, asciiUpper_sub_of_lower first last]
  exact p16_congr (by rw [p14, p14, upper]) seed

/-- Settles O28: the second half is the seed under the key of seven zero bytes. -/
theorem shortPasswordShowsInLmHash : Obligations.ShortPasswordShowsInLmHash := by
  intro pw short
  rw [p16_toList_drop, slice_p14_of_short short]
  exact desEnc_kex_zeros_kgs

/-- Settles O9: the outcome of `P16` is checked, and its 16 bytes are delivered with zeros to 24. -/
theorem p16ResultOrError : Obligations.P16ResultOrError := by
  intro s busy
  obtain ⟨delivered, absent, violated⟩ := exec_of_checked rfl busy (evalOf_p16 s)
  refine ⟨fun seed present ovfPw ovfCh ch => ?_, absent, fun present violation => violated present ?_⟩
  · obtain ⟨chOk, ch8⟩ := State.chOk_and_ch8_of_eq ch
    rw [delivered present (by simp [ovfPw, ovfCh, chOk]), ch8, State.deliver, fit_toList_append 16 8,
      Vector.length_toList]
    rfl
  · simpa [State.chOk, or_assoc] using violation

/-- Settles O10: the outcome of `P24PW` is checked, and its 24 bytes are delivered. -/
theorem p24pwResultOrError : Obligations.P24pwResultOrError := by
  intro s busy
  obtain ⟨delivered, absent, violated⟩ := exec_of_checked rfl busy (evalOf_p24pw s)
  refine ⟨fun challenge present ovfPw ovfCh ch => ?_, absent, fun present violation => violated present ?_⟩
  · obtain ⟨chOk, ch8⟩ := State.chOk_and_ch8_of_eq ch
    rw [delivered present (by simp [ovfPw, ovfCh, chOk]), ch8, State.deliver, fit_self, Vector.length_toList]
    rfl
  · simpa [State.chOk, or_assoc] using violation

/-- Settles O11: the outcome of `P24P21` is checked, and its 24 bytes are delivered. -/
theorem p24p21ResultOrError : Obligations.P24p21ResultOrError := by
  intro s busy
  obtain ⟨delivered, absent, violated⟩ := exec_of_checked rfl busy (evalOf_p24p21 s)
  refine ⟨fun p21 challenge present ovfData ovfCh data ch => ?_, absent,
    fun present violation => violated present ?_⟩
  · obtain ⟨chOk, ch8⟩ := State.chOk_and_ch8_of_eq ch
    have length : s.data.length = 21 := by rw [data, Vector.length_toList]
    rw [delivered present (by simp [ovfData, ovfCh, length, chOk]), ch8, State.deliver, fit_self,
      Vector.length_toList]
    simp only [data, fit_self]
    rfl
  · simpa [State.chOk, or_assoc] using violation

/-- Settles O26: `P14` is the first 14 bytes and the zeros that are missing, one of the two empty. -/
theorem p14CutsOrPads : Obligations.P14CutsOrPads := by
  intro pw
  refine ⟨fun long => ?cut, fun short => ?padded⟩
  case cut => rw [p14_toList, Nat.sub_eq_zero_of_le long, List.replicate_zero, List.append_nil]
  case padded =>
    have whole : ((upcase pw).map narrow).length ≤ 14 := by rw [List.length_map]; exact short.le
    rw [p14_toList, List.take_of_length_le whole]

end Sys2Proof.Machine
end

section
/-! The text encoders (`43_variant_dispatch.md`): what `UPCASE` keeps on every text (D7, R171), and the two bytes
that `UTF16LE` gives a unit (R173). -/

namespace Sys2Proof.Machine

/-! ### Upper-casing -/

/-- R171: the units of a text whose ASCII letters are mapped; 0, which stands for a missing unit, is no letter. -/
theorem map_asciiUpper_getD (t : Text) (i : Nat) : (t.map asciiUpper).getD i 0 = asciiUpper (t.getD i 0) :=
  List.getD_map t 0 asciiUpper

@[simp] theorem upcaseProposal_length (t : Text) : (upcaseProposal t).length = t.length :=
  (fillOpenUnits_length _ _).trans (List.length_map asciiUpper)

/-- R171: the proposal maps an ASCII unit by the law; what it fills in are other units. -/
theorem upcaseProposal_getD_of_ascii (t : Text) (i : Nat) (ascii : isAscii (t.getD i 0) = true) :
    (upcaseProposal t).getD i 0 = asciiUpper (t.getD i 0) := by
  have mapped : isAscii ((t.map asciiUpper).getD i 0) = true := by
    rw [map_asciiUpper_getD, isAscii_asciiUpper, ascii]
  calc (upcaseProposal t).getD i 0
    _ = (t.map asciiUpper).getD i 0 := fillOpenUnits_getD_of_ascii _ _ i mapped
    _ = asciiUpper (t.getD i 0) := map_asciiUpper_getD t i

/-- D7: `UPCASE` keeps the length of every text. -/
@[simp] theorem upcase_length (t : Text) : (upcase t).length = t.length := by
  rcases upcase_cases t with ⟨-, taken⟩ | ⟨-, taken⟩
  · rw [taken, upcaseProposal_length]
  · rw [taken, List.length_map]

/-- D7: `UPCASE` maps an ASCII unit by the law, whatever stands beside it. -/
theorem upcase_getD_of_ascii (t : Text) (i : Nat) (ascii : isAscii (t.getD i 0) = true) :
    (upcase t).getD i 0 = asciiUpper (t.getD i 0) := by
  rcases upcase_cases t with ⟨-, taken⟩ | ⟨-, taken⟩
  · rw [taken, upcaseProposal_getD_of_ascii t i ascii]
  · rw [taken, map_asciiUpper_getD]

/-- D7: a proposal is taken only where it is its own proposal, and a text whose letters are mapped is upper-cased
as the text itself. -/
theorem upcase_idem (t : Text) : upcase (upcase t) = upcase t := by
  rcases upcase_cases t with ⟨settled, taken⟩ | ⟨-, taken⟩
  · have again : upcase (upcaseProposal t) = upcaseProposal (upcaseProposal t) :=
      if_pos (congrArg upcaseProposal settled)
    rw [taken, again, settled]
  · calc upcase (upcase t)
      _ = upcase (t.map asciiUpper) := by rw [taken]
      _ = upcase t := upcase_congr (map_asciiUpper_idem t)

/-! ### Units as bytes -/

/-- The low byte of a unit, as R173 writes it. -/
theorem setWidth_and_eq_extractLsb' (c : CodeUnit) : (c &&& 0x00FF).setWidth 8 = c.extractLsb' 0 8 := by
  apply BitVec.eq_of_toNat_eq
  have mask (n : Nat) : n &&& 255 = n % 256 := Nat.and_two_pow_sub_one_eq_mod n 8
  simp [mask]

/-- The high byte of a unit, as R173 writes it. -/
theorem setWidth_ushiftRight_eq_extractLsb' (c : CodeUnit) : (c >>> 8).setWidth 8 = c.extractLsb' 8 8 := by
  apply BitVec.eq_of_toNat_eq
  simp

/-- R173: two bytes a unit. -/
@[simp] theorem utf16le_length (t : Text) : (utf16le t).length = 2 * t.length := by
  induction t with
  | nil => rfl
  | cons c t ih =>
    simp only [utf16le, List.length_cons, ih]
    omega

/-- R173: the low byte of a unit stands first. -/
theorem utf16le_getD_even (t : Text) (i : Nat) :
    (utf16le t).getD (2 * i) 0 = (t.getD i 0).extractLsb' 0 8 := by
  induction t generalizing i with
  | nil => rfl
  | cons c t ih =>
    cases i with
    | zero => rfl
    | succ i => exact ih i

/-- R173: the high byte of a unit stands second. -/
theorem utf16le_getD_odd (t : Text) (i : Nat) :
    (utf16le t).getD (2 * i + 1) 0 = (t.getD i 0).extractLsb' 8 8 := by
  induction t generalizing i with
  | nil => simp [utf16le]
  | cons c t ih =>
    cases i with
    | zero => rfl
    | succ i => exact ih i

end Sys2Proof.Machine
end

section
/-! The `RESPONSE` commands (`43_variant_dispatch.md` R177 to R179): what they evaluate to, and what `NTLM2` sees of
an identity (R181). -/

namespace Sys2Proof.Machine

variable {s : State}

/-- R93: a result of 16 bytes leaves the last 8 bytes of `OUT` zero. -/
theorem State.deliver_of16 (s : State) (b : Bytes 16) :
    s.deliver b.toList =
      { s with out := b ++ zeros 8, outlen := 16, err := .noError, state := .done, delay := 0 } := by
  rw [State.deliver, fit_toList_append 16 8, Vector.length_toList]
  rfl

/-- R176, R166: `RESPONSE.LANMAN` and `P24PW` are one computation on the same operands. -/
theorem exec_responseLanman (s : State) : exec .responseLanman s = exec .p24pw s := rfl

/-- R177: `NTLM1` needs MD4 and DES, and `PW` and `CH` in order. -/
theorem evalOf_responseNtlm1 (s : State) :
    evalOf .responseNtlm1 s = .checked (s.params.hasMd4 && s.params.hasDes) (s.ovfPw || s.ovfCh || !s.chOk)
      (ntlm1Response s.pw s.ch8).toList := by
  rw [CmdOutcome.checked, ← CmdOutcome.ite_fail_ite_fail, Bool.not_and]
  rfl

/-- R178: `NTLM2` needs MD4 and HMAC-MD5, and `PW`, `CH` and the identity in order. -/
theorem evalOf_responseNtlm2 (s : State) :
    evalOf .responseNtlm2 s = .checked (s.params.hasMd4 && s.params.hasHmacMd5)
      (s.ovfPw || s.ovfCh || !s.chOk || !s.identityPresent || (s.ovfUser || s.ovfDom))
      (ntlm2Response s.pw s.user s.dom).toList := by
  rw [CmdOutcome.checked, ← CmdOutcome.ite_fail_ite_fail, ← CmdOutcome.ite_fail_ite_fail,
    ← CmdOutcome.ite_fail_ite_fail, Bool.not_and]
  rfl

/-- R179: `MD4_RAW` needs MD4, and `PW` and `CH` in order. -/
theorem evalOf_responseMd4Raw (s : State) :
    evalOf .responseMd4Raw s = .checked s.params.hasMd4 (s.ovfPw || s.ovfCh || !s.chOk) (ntHash s.pw).toList := by
  rw [CmdOutcome.checked, ← CmdOutcome.ite_fail_ite_fail]
  rfl

/-- R181: username and domain enter `NTLM2` through their upper-cased concatenation alone. -/
theorem ntlm2Response_congr (pw : Text) {user dom user' dom' : Text}
    (same : upcase (user ++ dom) = upcase (user' ++ dom')) :
    ntlm2Response pw user dom = ntlm2Response pw user' dom' := by
  rw [ntlm2Response, ntlm2Response, same]

end Sys2Proof.Machine
end

section
/-! The statements of `43_variant_dispatch.md`. -/

namespace Sys2Proof.Machine

/-- Settles O29: the bytes at the even and the odd places, unit by unit. -/
theorem utf16leLowByteFirst : Obligations.Utf16leLowByteFirst := by
  intro t
  refine ⟨utf16le_length t, fun i _ => ⟨?low, ?high⟩⟩
  case low => rw [utf16le_getD_even, setWidth_and_eq_extractLsb']
  case high => rw [utf16le_getD_odd, setWidth_ushiftRight_eq_extractLsb']

/-- Settles O59: both things that `UPCASE` can answer have the three laws. -/
theorem upcaseLawsOnEveryText : Obligations.UpcaseLawsOnEveryText :=
  fun t => ⟨upcase_length t, upcase_idem t, fun i _ ascii => upcase_getD_of_ascii t i (decide_eq_true ascii)⟩

/-- Settles O13: `RESPONSE.LANMAN` is `P24PW`. -/
theorem lanmanResultOrError : Obligations.LanmanResultOrError := by
  intro s busy
  rw [exec_responseLanman]
  exact p24pwResultOrError s busy

/-- Settles O14: the outcome of `NTLM1` is checked, and its 24 bytes are delivered. -/
theorem ntlm1ResultOrError : Obligations.Ntlm1ResultOrError := by
  intro s busy
  obtain ⟨delivered, absent, violated⟩ := exec_of_checked rfl busy (evalOf_responseNtlm1 s)
  refine ⟨fun challenge hasMd4 hasDes ovfPw ovfCh ch => ?_,
    fun missing => absent (Bool.and_eq_false_iff.mpr missing),
    fun hasMd4 hasDes violation => violated (Bool.and_eq_true_iff.mpr ⟨hasMd4, hasDes⟩) ?_⟩
  · obtain ⟨chOk, ch8⟩ := State.chOk_and_ch8_of_eq ch
    rw [delivered (Bool.and_eq_true_iff.mpr ⟨hasMd4, hasDes⟩) (by simp [ovfPw, ovfCh, chOk]), ch8,
      State.deliver, fit_self, Vector.length_toList]
    rfl
  · simpa [State.chOk, or_assoc] using violation

/-- Settles O15: the outcome of `NTLM2` is checked, and its 16 bytes are delivered with zeros to 24. -/
theorem ntlm2ResultOrError : Obligations.Ntlm2ResultOrError := by
  intro s busy
  obtain ⟨delivered, absent, violated⟩ := exec_of_checked rfl busy (evalOf_responseNtlm2 s)
  refine ⟨fun hasMd4 hasHmac ovfPw ovfCh chLength userV domV ovfUser ovfDom => ?_,
    fun missing => absent (Bool.and_eq_false_iff.mpr missing),
    fun hasMd4 hasHmac violation => violated (Bool.and_eq_true_iff.mpr ⟨hasMd4, hasHmac⟩) ?_⟩
  · have inOrder : (s.ovfPw || s.ovfCh || !s.chOk || !s.identityPresent || (s.ovfUser || s.ovfDom)) = false := by
      simp [State.chOk, State.identityPresent, ovfPw, ovfCh, chLength, userV, domV, ovfUser, ovfDom]
    rw [delivered (Bool.and_eq_true_iff.mpr ⟨hasMd4, hasHmac⟩) inOrder, State.deliver_of16]
    rfl
  · simpa [State.chOk, State.identityPresent, Bool.and_eq_false_iff, or_assoc] using violation

/-- Settles O16: the outcome of `MD4_RAW` is checked, and its 16 bytes are delivered with zeros to 24. -/
theorem md4RawResultOrError : Obligations.Md4RawResultOrError := by
  intro s busy
  obtain ⟨delivered, absent, violated⟩ := exec_of_checked rfl busy (evalOf_responseMd4Raw s)
  refine ⟨fun present ovfPw ovfCh chLength => ?_, absent, fun present violation => violated present ?_⟩
  · rw [delivered present (by simp [State.chOk, ovfPw, ovfCh, chLength]), State.deliver_of16]
    rfl
  · simpa [State.chOk, or_assoc] using violation

/-- Settles O17: `AVAIL` evaluates to its one byte, which is delivered with zeros to 24. -/
theorem availDelivers : Obligations.AvailDelivers := by
  intro s busy
  have completed : exec .avail s = .next (s.finish (evalAvail s)) := exec_of_command rfl busy
  have padded (x : Byte) : fit 24 [x] = (#v[x] : Bytes 1) ++ zeros 23 := fit_toList_append 1 23 #v[x]
  rw [completed, evalAvail, State.finish, State.deliver, padded]
  simp only [Bool.and_eq_true, and_assoc]
  rfl

/-- Settles O22: `NTLM2` evaluates alike under both identities. -/
theorem ntlm2SeesOnlyUpcasedIdentity : Obligations.Ntlm2SeesOnlyUpcasedIdentity := by
  intro s user dom busy identity
  refine resultsAgree_of_evalOf_eq rfl busy busy ?_
  rw [evalOf_responseNtlm2, evalOf_responseNtlm2, ntlm2Response_congr s.pw identity]
  rfl

/-- Settles O30: a text of ASCII units is one whose every unit is mapped by the law. -/
theorem encoderLawsOnAscii : Obligations.EncoderLawsOnAscii := by
  refine ⟨fun t ascii => ⟨upcase_length t, fun i inside => ?unit⟩, fun c ascii => ?byte⟩
  case unit =>
    have here : t.getD i 0 < 0x0080 := by
      rw [List.getD_eq_getElem _ _ inside]
      exact ascii _ (List.getElem_mem inside)
    exact upcase_getD_of_ascii t i (decide_eq_true here)
  case byte => rw [narrow_of_ascii (decide_eq_true ascii), BitVec.setWidth_eq_extractLsb' (by decide)]

end Sys2Proof.Machine
end

section
/-! MD4 (`44_md4.md`): the padding that it shares with MD5 (R191), and what the `MD4` command evaluates to (R199). -/

namespace Sys2Proof.Machine

/-! ### The padding -/

/-- R191: the zeros fill the block up to its last eight bytes. -/
theorem add_padZeros_mod (n : Nat) : (n + 1 + padZeros n) % 64 = 56 := by
  rw [padZeros]
  omega

/-- R191: no smaller number does, for those that do are equal modulo 64 and `padZeros n` is below 64. -/
theorem padZeros_le {n y : Nat} (fills : (n + 1 + y) % 64 = 56) : padZeros n ≤ y := by
  rw [padZeros]
  omega

@[simp] theorem lengthBytes_length (n : Nat) : (lengthBytes n).length = 8 := by
  rw [lengthBytes, List.length_map, List.length_range]

/-- R191: byte `j` of the length is the digit of weight `256 ^ j` of the bit length modulo 2^64. -/
theorem lengthBytes_getD_toNat (n : Nat) {j : Nat} (inside : j < 8) :
    ((lengthBytes n).getD j 0).toNat = (8 * n) % 2 ^ 64 / 256 ^ j % 256 := by
  have byte : (lengthBytes n).getD j 0 = (BitVec.ofNat 64 (8 * n)).extractLsb' (8 * j) 8 := by
    rw [List.getD_eq_getElem _ _ (by rwa [lengthBytes_length])]
    simp only [lengthBytes, List.getElem_map, List.getElem_range]
  have weight : 2 ^ (8 * j) = 256 ^ j := pow_mul 2 8 j
  rw [byte, BitVec.extractLsb'_toNat, BitVec.toNat_ofNat, Nat.shiftRight_eq_div_pow, weight]

/-- R191: the blocks of a padded message are those that hold the message and nine bytes more. -/
theorem pad_length (m : List Byte) : (pad m).length = 64 * ((m.length + 8) / 64 + 1) := by
  have parts : (pad m).length = m.length + 1 + padZeros m.length + 8 := by
    simp only [pad, List.length_append, List.length_singleton, List.length_replicate, lengthBytes_length]
  rw [parts, padZeros]
  omega

/-! ### The command -/

/-- R199: `MD4` needs the unit, and `DATA` in order. -/
theorem evalOf_md4 (s : State) : evalOf .md4 s = .checked s.params.hasMd4 s.ovfData (md4 s.data).toList := rfl

end Sys2Proof.Machine
end

section
/-! The statements of `44_md4.md`. -/

namespace Sys2Proof.Machine

/-- Settles O31: the zeros are those of `padZeros`, the last eight bytes those of `lengthBytes`. -/
theorem paddingShape : Obligations.PaddingShape := fun m =>
  ⟨padZeros m.length, lengthBytes m.length, rfl, add_padZeros_mod m.length, fun _ => padZeros_le,
    lengthBytes_length m.length, fun _ => lengthBytes_getD_toNat m.length, pad_length m⟩

/-- Settles O12: the outcome of `MD4` is checked, and its 16 bytes are delivered with zeros to 24. -/
theorem md4ResultOrError : Obligations.Md4ResultOrError := by
  intro s busy
  obtain ⟨delivered, absent, violated⟩ := exec_of_checked rfl busy (evalOf_md4 s)
  refine ⟨fun present ovfData => ?_, absent, violated⟩
  rw [delivered present ovfData, State.deliver_of16]

end Sys2Proof.Machine
end

section
/-! HMAC-MD5 (`45_md5_hmac.md`): the padded key, the nested digests, and the statement on them. -/

namespace Sys2Proof.Machine

/-! ### The key block -/

@[simp] theorem hmacKey_length (key : List Byte) : (hmacKey key).length = 64 := Vector.length_toList

/-- R218, R219: the block drops no byte of a key of at most 64. -/
theorem hmacKey_eq_append_zeros {key : List Byte} (atMost : key.length ≤ 64) :
    hmacKey key = key ++ List.replicate (64 - key.length) 0 := by
  rw [hmacKey, fit_toList, List.take_of_length_le atMost]

/-! ### The construction -/

/-- R218: `HMAC_MD5` of any key is the two nested digests under its block. -/
theorem hmacMd5_eq_nested (key msg : List Byte) :
    hmacMd5 key msg = md5 ((hmacKey key).map (fun b : Byte => b ^^^ 0x5C)
      ++ (md5 ((hmacKey key).map (fun b : Byte => b ^^^ 0x36) ++ msg)).toList) := rfl

/-- Settles O32: the padded key is the key block. -/
theorem hmacConstruction : Obligations.HmacConstruction := fun key msg atMost =>
  ⟨hmacKey key, hmacKey_eq_append_zeros atMost, hmacKey_length key, hmacMd5_eq_nested key msg⟩

end Sys2Proof.Machine
end

section
/-! The host's accesses (`46_host_access.md`): a push and each action of `CTRL` as one record update (R231 to R233,
R236 to R238), and four bytes as the word that a read answers (R65). -/

namespace Sys2Proof.Machine

/-! ### Pushes -/

/-- R30: what is made of the answer of a push, in its two cases. -/
theorem apply_pushWithin {α β : Type} (write : List α → Bool → β) (cap : Nat) (buf : List α) (ovf : Bool) (x : α) :
    write (pushWithin cap buf ovf x).1 (pushWithin cap buf ovf x).2 =
      if buf.length < cap then write (buf ++ [x]) ovf else write buf true := by
  rcases pushWithin_cases cap buf ovf x with ⟨below, pushed⟩ | ⟨full, pushed⟩
  · rw [pushed, if_pos below]
  · rw [pushed, if_neg (Nat.not_lt.mpr full)]

/-- R231: `WR PW_PUSH`. -/
theorem State.pushPw_eq (v : Word) (s : State) :
    s.pushPw v = if s.pw.length < s.params.textMax
      then { s with pw := s.pw ++ [v.extractLsb' 0 16] } else { s with ovfPw := true } :=
  apply_pushWithin (fun buf ovf => { s with pw := buf, ovfPw := ovf }) ..

/-- R231: `WR USER_PUSH`. -/
theorem State.pushUser_eq (v : Word) (s : State) :
    s.pushUser v = if s.user.length < s.params.textMax
      then { s with user := s.user ++ [v.extractLsb' 0 16], userV := true }
      else { s with ovfUser := true, userV := true } :=
  apply_pushWithin (fun buf ovf => { s with user := buf, ovfUser := ovf, userV := true }) ..

/-- R231: `WR DOM_PUSH`. -/
theorem State.pushDom_eq (v : Word) (s : State) :
    s.pushDom v = if s.dom.length < s.params.textMax
      then { s with dom := s.dom ++ [v.extractLsb' 0 16], domV := true }
      else { s with ovfDom := true, domV := true } :=
  apply_pushWithin (fun buf ovf => { s with dom := buf, ovfDom := ovf, domV := true }) ..

/-- R232: `WR DATA_PUSH`. -/
theorem State.pushData_eq (v : Word) (s : State) :
    s.pushData v = if s.data.length < s.params.dataMax
      then { s with data := s.data ++ [v.extractLsb' 0 8] } else { s with ovfData := true } :=
  apply_pushWithin (fun buf ovf => { s with data := buf, ovfData := ovf }) ..

/-- R233: `WR CH_PUSH`. -/
theorem State.pushCh_eq (v : Word) (s : State) :
    s.pushCh v = if s.ch.length < s.params.chMax
      then { s with ch := s.ch ++ [v.extractLsb' 0 8] } else { s with ovfCh := true } :=
  apply_pushWithin (fun buf ovf => { s with ch := buf, ovfCh := ovf }) ..

/-! ### The bits of `CTRL`

R35, R236 to R238: the action of a bit, taken or not as the bit says, is one record update. In this form the eight
actions of R244 compose to one update field by field. -/

theorem State.ite_clearPw (bit : Bool) (s : State) :
    (if bit then s.clearPw else s) =
      { s with pw := if bit then [] else s.pw, ovfPw := s.ovfPw && !bit } := by
  cases bit <;> simp [State.clearPw]

theorem State.ite_clearUser (bit : Bool) (s : State) :
    (if bit then s.clearUser else s) =
      { s with user := if bit then [] else s.user, userV := s.userV && !bit, ovfUser := s.ovfUser && !bit } := by
  cases bit <;> simp [State.clearUser]

theorem State.ite_clearDom (bit : Bool) (s : State) :
    (if bit then s.clearDom else s) =
      { s with dom := if bit then [] else s.dom, domV := s.domV && !bit, ovfDom := s.ovfDom && !bit } := by
  cases bit <;> simp [State.clearDom]

theorem State.ite_clearData (bit : Bool) (s : State) :
    (if bit then s.clearData else s) =
      { s with data := if bit then [] else s.data, ovfData := s.ovfData && !bit } := by
  cases bit <;> simp [State.clearData]

theorem State.ite_clearCh (bit : Bool) (s : State) :
    (if bit then s.clearCh else s) =
      { s with ch := if bit then [] else s.ch, ovfCh := s.ovfCh && !bit } := by
  cases bit <;> simp [State.clearCh]

/-- R238: the bit acts in `DONE` and `ERROR` alone. -/
theorem State.ite_acknowledge (bit : Bool) (s : State) :
    (if bit then s.acknowledge else s) =
      { s with
        state := if bit ∧ (s.state = .done ∨ s.state = .error) then .idle else s.state
        err := if bit ∧ (s.state = .done ∨ s.state = .error) then .noError else s.err
        out := if bit ∧ (s.state = .done ∨ s.state = .error) then zeros 24 else s.out
        outlen := if bit ∧ (s.state = .done ∨ s.state = .error) then 0 else s.outlen } := by
  rw [State.acknowledge, ← ite_and]
  split_ifs <;> rfl

theorem State.ite_setUser (bit : Bool) (s : State) :
    (if bit then s.setUser else s) = { s with userV := s.userV || bit } := by
  cases bit <;> simp [State.setUser]

theorem State.ite_setDom (bit : Bool) (s : State) :
    (if bit then s.setDom else s) = { s with domV := s.domV || bit } := by
  cases bit <;> simp [State.setDom]

/-! ### Reads -/

/-- R65: four bytes of a word, each shifted to its lane. -/
theorem wordOfBytes_eq_shifts (b : List Byte) (i : Nat) :
    wordOfBytes b i = (b.getD i 0).setWidth 32 ||| ((b.getD (i + 1) 0).setWidth 32 <<< 8)
      ||| ((b.getD (i + 2) 0).setWidth 32 <<< 16) ||| ((b.getD (i + 3) 0).setWidth 32 <<< 24) := by
  have highestFirst : wordOfBytes b i = ((b.getD (i + 3) 0).setWidth 32 <<< 24)
      ||| ((b.getD (i + 2) 0).setWidth 32 <<< 16) ||| ((b.getD (i + 1) 0).setWidth 32 <<< 8)
      ||| (b.getD i 0).setWidth 32 :=
    (BitVec.setWidth_eq _).symm.trans BitVec.setWidth_append_append_append_eq_shiftLeft_setWidth_or
  have reversed (w x y z : Word) : w ||| x ||| y ||| z = z ||| y ||| x ||| w := by ac_rfl
  rw [highestFirst, reversed]

end Sys2Proof.Machine
end

section
/-! The statements of `46_host_access.md`. -/

namespace Sys2Proof.Machine

/-- Settles O35: the eight actions one after the other, each a record update of the one before. -/
theorem ctrlAppliesItsBits : Obligations.CtrlAppliesItsBits := by
  intro s m ready
  rw [exec_of_ready rfl ready]
  simp only [effectOf, State.control, ctrlActions, List.foldl_cons, List.foldl_nil, State.ite_clearPw,
    State.ite_clearUser, State.ite_clearDom, State.ite_clearData, State.ite_clearCh, State.ite_acknowledge,
    State.ite_setUser, State.ite_setDom]

/-- Settles O33: each push in its two cases. -/
theorem textPushesAppendOrOverflow : Obligations.TextPushesAppendOrOverflow := by
  intro s v ready
  rw [BitVec.setWidth_eq_extractLsb' (by decide), ← s.pushPw_eq, ← s.pushUser_eq, ← s.pushDom_eq]
  exact ⟨exec_of_ready rfl ready, exec_of_ready rfl ready, exec_of_ready rfl ready⟩

/-- Settles O34: each push in its two cases. -/
theorem bytePushesAppendOrOverflow : Obligations.BytePushesAppendOrOverflow := by
  intro s v ready
  rw [BitVec.setWidth_eq_extractLsb' (by decide), ← s.pushData_eq, ← s.pushCh_eq]
  exact ⟨exec_of_ready rfl ready, exec_of_ready rfl ready⟩

/-- Settles O36: the writes take the low bits, and the reads extend them with zeros. -/
theorem ienAndOffsetStoreAndReturn : Obligations.IenAndOffsetStoreAndReturn := by
  intro s v ready
  have enable : (BitVec.ofBool s.ie).setWidth 32 = if s.ie then 1 else 0 := by cases s.ie <;> rfl
  rw [← enable, BitVec.setWidth_eq_extractLsb' (x := v) (by decide)]
  exact ⟨exec_of_ready rfl ready, rfl, exec_of_ready rfl ready, exec_of_ready rfl ready, exec_of_ready rfl ready⟩

/-- Settles O38: the value of each of these registers is the number or the word that the statement names. -/
theorem lengthAndCmdReads : Obligations.LengthAndCmdReads := by
  intro s ready
  refine ⟨?_, ?_, ?_, ?_, ?_, ?_⟩ <;> exact exec_of_ready rfl ready

/-- Settles O39: each of the six reads answers `OUTk`, whose four bytes are those of the statement. -/
theorem outReadsPackLittleEndian : Obligations.OutReadsPackLittleEndian := by
  intro s ready k i named
  have answered : exec i s = .next (s.reply (s.outWord k)) := by
    subst named
    fin_cases k <;> exact exec_of_ready rfl ready
  rw [answered, State.outWord, wordOfBytes_eq_shifts]
  rfl

end Sys2Proof.Machine
end

section
/-! The lists of causes (`60_exceptions.md` R262 to R264, R266): each command checks the columns of the command
table in one order, and ends with the error of the first check that finds a cause. -/

namespace Sys2Proof.Machine

variable {s : State} {i : Instr}

/-! ### The columns of the command table -/

/-- R262: the units that each command needs. -/
theorem unitMissing_table (p : Config.Params) :
    (∀ i ∈ [Instr.keyexp, .avail], unitMissing p i = false)
      ∧ (∀ i ∈ [Instr.desenc, .p16, .p24pw, .p24p21, .responseLanman], unitMissing p i = !p.hasDes)
      ∧ (∀ i ∈ [Instr.md4, .responseMd4Raw], unitMissing p i = !p.hasMd4)
      ∧ unitMissing p .responseNtlm1 = !(p.hasMd4 && p.hasDes)
      ∧ unitMissing p .responseNtlm2 = !(p.hasMd4 && p.hasHmacMd5) := by
  simp [unitMissing, Bool.or_comm]

/-- R263: the conditions of the commands that read `PW` and `CH` and nothing else. -/
theorem operandViolation_of_pw_ch (s : State) :
    ∀ i ∈ [Instr.p16, .p24pw, .responseLanman, .responseNtlm1, .responseMd4Raw],
      operandViolation s i = (s.ovfPw || s.ovfCh || !s.chOk) := by
  simp [operandViolation, readsPw, readsData, readsCh, State.chOk, bne, beq_eq_decide]

/-- R263: the conditions of `NTLM2`, which reads the identity too. -/
theorem operandViolation_responseNtlm2 (s : State) :
    operandViolation s .responseNtlm2
      = (s.ovfPw || s.ovfCh || !s.chOk || !s.identityPresent || (s.ovfUser || s.ovfDom)) := by
  simp [operandViolation, readsPw, readsData, readsCh, State.chOk, State.identityPresent, bne, beq_eq_decide,
    Bool.or_assoc, Bool.or_comm, Bool.or_left_comm]

/-- R263: the conditions of the commands that read `DATA`. -/
theorem operandViolation_of_data (s : State) :
    operandViolation s .keyexp = (s.ovfData || decide (s.offset.toNat + 7 > s.data.length))
      ∧ operandViolation s .desenc = (s.ovfData || s.ovfCh || !s.chOk)
      ∧ operandViolation s .p24p21 = (s.ovfData || s.ovfCh || s.data.length != 21 || !s.chOk)
      ∧ operandViolation s .md4 = s.ovfData := by
  simp [operandViolation, readsPw, readsData, readsCh, State.chOk, bne, beq_eq_decide,
    Bool.or_assoc, Bool.or_comm, Bool.or_left_comm]

/-- R263: `AVAIL` reads nothing. -/
theorem operandViolation_avail (s : State) : operandViolation s .avail = false := by
  simp [operandViolation, readsPw, readsData, readsCh, beq_eq_decide]

/-- R264: the command is `DESENC` and its key is not of 8 bytes. -/
def keyLengthWrong (s : State) (i : Instr) : Bool := i == .desenc && s.data.length != 8

/-- R264: that check as the statements write it. -/
theorem keyLengthWrong_iff : keyLengthWrong s i = true ↔ i = .desenc ∧ s.data.length ≠ 8 := by
  simp [keyLengthWrong]

/-- R264: no other command has a key length to check. -/
theorem keyLengthWrong_of_ne (other : i ≠ .desenc) (s : State) : keyLengthWrong s i = false := by
  simp [keyLengthWrong, other]

/-! ### The order of the checks -/

/-- R98, R266: the outcome of a command on the three checks in the order of their priority. -/
def CmdOutcome.byPriority (missing violation badKey : Bool) (b : List Byte) : CmdOutcome :=
  if missing then .fail .algorithmUnavailable
  else if violation then .fail .preconditionViolation
  else if badKey then .fail .invalidKey
  else .ok b

/-- R266: the command `i` evaluates to the outcome of its own three checks. -/
def EvalsByPriority (i : Instr) (s : State) : Prop :=
  ∃ b, evalOf i s =
    .byPriority (unitMissing s.params i) (operandViolation s i) (keyLengthWrong s i) b

/-- A command with no key length to check, its outcome checked for the unit and the operands of its row. -/
theorem EvalsByPriority.of_checked {unit violation : Bool} {b : List Byte} (other : i ≠ .desenc)
    (units : unitMissing s.params i = !unit) (operands : operandViolation s i = violation)
    (eval : evalOf i s = .checked unit violation b) : EvalsByPriority i s :=
  ⟨b, by rw [eval, units, operands, keyLengthWrong_of_ne other]; rfl⟩

/-- R122: `KEYEXP` needs no unit. -/
theorem evalOf_keyexp (s : State) :
    evalOf .keyexp s = .checked true (s.ovfData || decide (s.offset.toNat + 7 > s.data.length))
      (kexAt s.data s.offset.toNat).toList := by
  rw [CmdOutcome.checked, ← CmdOutcome.ite_fail_ite_fail]
  simp only [decide_eq_true_eq]
  rfl

/-- R145: `DESENC` alone has the third check. -/
theorem evalOf_desenc (s : State) :
    evalOf .desenc s = .byPriority (!s.params.hasDes) (s.ovfData || s.ovfCh || !s.chOk) (keyLengthWrong s .desenc)
      (desEnc (fit 8 s.data) s.ch8).toList := by
  rw [CmdOutcome.byPriority, ← CmdOutcome.ite_fail_ite_fail]
  simp only [keyLengthWrong_iff, true_and]
  rfl

/-- R98, R266: every command checks its row of the table in the one order. -/
theorem evalsByPriority (command : isCommand i = true) (s : State) : EvalsByPriority i s := by
  obtain ⟨noUnit, desUnit, md4Unit, ntlm1Units, ntlm2Units⟩ := unitMissing_table s.params
  obtain ⟨keyexpRow, desencRow, p24p21Row, md4Row⟩ := operandViolation_of_data s
  have pwChRow := operandViolation_of_pw_ch s
  cases i with
  | keyexp => exact .of_checked nofun (noUnit _ (by simp)) keyexpRow (evalOf_keyexp s)
  | desenc => exact ⟨_, by rw [desUnit _ (by simp), desencRow, evalOf_desenc]⟩
  | p16 => exact .of_checked nofun (desUnit _ (by simp)) (pwChRow _ (by simp)) (evalOf_p16 s)
  | p24pw => exact .of_checked nofun (desUnit _ (by simp)) (pwChRow _ (by simp)) (evalOf_p24pw s)
  | p24p21 => exact .of_checked nofun (desUnit _ (by simp)) p24p21Row (evalOf_p24p21 s)
  | md4 => exact .of_checked nofun (md4Unit _ (by simp)) md4Row (evalOf_md4 s)
  | responseLanman => exact .of_checked nofun (desUnit _ (by simp)) (pwChRow _ (by simp)) (evalOf_p24pw s)
  | responseNtlm1 => exact .of_checked nofun ntlm1Units (pwChRow _ (by simp)) (evalOf_responseNtlm1 s)
  | responseNtlm2 =>
    exact .of_checked nofun ntlm2Units (operandViolation_responseNtlm2 s) (evalOf_responseNtlm2 s)
  | responseMd4Raw => exact .of_checked nofun (md4Unit _ (by simp)) (pwChRow _ (by simp)) (evalOf_responseMd4Raw s)
  | avail => exact .of_checked (unit := true) nofun (noUnit _ (by simp)) (operandViolation_avail s) rfl
  | _ => cases command

end Sys2Proof.Machine
end

section
/-! The statements of `60_exceptions.md` on the errors of the commands. -/

namespace Sys2Proof.Machine

/-- Settles O18: the four outcomes of the checks in their order, each with the error it records. -/
theorem commandErrorsExactly : Obligations.CommandErrorsExactly := by
  intro i s command busy
  obtain ⟨b, eval⟩ := evalsByPriority command s
  refine ⟨_, exec_of_command command busy, ?_⟩
  rw [eval]
  cases missing : unitMissing s.params i with
  | true => simp [CmdOutcome.byPriority, State.finish]
  | false =>
    cases violation : operandViolation s i with
    | true => simp [CmdOutcome.byPriority, State.finish]
    | false =>
      cases badKey : keyLengthWrong s i with
      | true => simp [CmdOutcome.byPriority, State.finish, keyLengthWrong_iff.mp badKey]
      | false => simp [CmdOutcome.byPriority, State.finish, ← keyLengthWrong_iff, badKey]

/-- Settles O19: of the two things that a completion can be, delivery ends in `DONE`. -/
theorem errorEntryWritesOnlyTheRecord : Obligations.ErrorEntryWritesOnlyTheRecord := by
  intro i s t command busy run failed
  cases (exec_of_command command busy).symm.trans run
  rcases State.finish_cases (evalOf i s) s with ⟨b, -, delivered⟩ | ⟨e, -, entered⟩
  · rw [delivered] at failed
    cases failed
  · exact ⟨e, entered⟩

end Sys2Proof.Machine
end

section
/-! Reset, time passing and the host's scripts (`70_reset_and_hazards.md`): what the step does that applies reset or
finds nothing to do, what reset makes of the host's program, and where a script leads that starts no command (R290,
R296, R306, R307). -/

namespace Sys2Proof.Machine

variable {s : State} {a : BusAccess} {i : Instr} {is : List Instr}

/-! ### Reset -/

/-- R290: reset goes before everything else. -/
theorem step_of_reset (applied : s.resetIn.head? = some true) : step s = .next s.applyReset := by
  have event : s.nextEvent = .reset := if_pos applied
  simp only [step, event]

/-- R69: what `BUSY` holds is the host's next access, if it is no read of `STATUS`. -/
theorem State.exists_held_of_holdsAccess (holds : s.holdsAccess = true) :
    s.state = .busy ∧ ∃ a rest, s.pending = a :: rest ∧ decodeAccess a ≠ .ok .rdStatus := by
  unfold State.holdsAccess at holds
  split at holds
  case h_1 a rest busy next =>
    refine ⟨busy, a, rest, next, fun status => ?_⟩
    simp [status, Except.toOption] at holds
  case h_2 => cases holds

/-- R290, U15: reset leaves the host's program as it is, or takes the held access off it. -/
theorem State.applyReset_pending_cases (s : State) :
    s.applyReset.pending = s.pending
      ∨ (s.state = .busy ∧ ∃ a, s.pending = a :: s.applyReset.pending ∧ decodeAccess a ≠ .ok .rdStatus) := by
  by_cases cancelled : (s.holdsAccess && Config.resetCancelsHeld s) = true
  · obtain ⟨holds, -⟩ := Bool.and_eq_true_iff.mp cancelled
    obtain ⟨busy, a, rest, next, notStatus⟩ := State.exists_held_of_holdsAccess holds
    have remaining : s.applyReset.pending = rest := by simp [State.applyReset, cancelled, next]
    exact .inr ⟨busy, a, by rw [next, remaining], notStatus⟩
  · exact .inl (if_neg cancelled)

/-! ### Nothing to do -/

/-- R306, R307: where neither reset nor a completion is due and the host presents nothing, time passes. -/
theorem step_of_nothing (noReset : s.resetIn.head? ≠ some true) (notDue : ¬(s.state = .busy ∧ s.delay = 0))
    (nothing : s.pending = []) : step s = .next s.tick := by
  by_cases busy : s.state = .busy
  · exact step_of_waiting noReset busy (fun due => notDue ⟨busy, due⟩) nothing
  · have event : s.nextEvent = .rest := by simp [State.nextEvent, noReset, busy, nothing]
    simp only [step, event]

/-! ### Scripts of the interface -/

/-- R63, R290: reset adds nothing to what the host has yet to issue. -/
theorem State.scriptDefined_applyReset (defined : s.scriptDefined) : s.applyReset.scriptDefined := by
  rcases s.applyReset_pending_cases with kept | ⟨-, a, cancelled, -⟩
  · rwa [State.scriptDefined, kept]
  · rw [State.scriptDefined, cancelled] at defined
    exact (List.forall_mem_cons.mp defined).2

/-- R260, R69: an access of the interface is accepted, or held and presented again. -/
theorem exec_scriptDefined (decoded : decodeAccess a = .ok i) (defined : s.scriptDefined) :
    ∃ t, exec i s = .next t ∧ t.scriptDefined := by
  have accepted : (effectOf i s).scriptDefined := by rwa [State.scriptDefined, effectOf_pending]
  by_cases busy : s.state = .busy
  · by_cases status : i = .rdStatus
    · subst status
      exact ⟨_, rfl, accepted⟩
    · refine ⟨s.hold (encodeBus i), ?_, ?_⟩
      · rw [exec_of_held (isCommand_of_decodeAccess decoded) status, State.access_of_busy _ _ busy]
      · exact List.forall_mem_cons.mpr ⟨wellFormed_of_decodeAccess (decodeAccess_encodeBus decoded), defined⟩
  · exact ⟨_, exec_of_ready (isCommand_of_decodeAccess decoded) busy, accepted⟩

/-! ### Scripts that start no command -/

/-- The effects of accesses that are accepted one after the other. -/
def effectsOf (is : List Instr) (s : State) : State := is.foldl (fun u i => effectOf i u) s

/-- R23: only a write of `CMD` leads to `BUSY`. -/
theorem effectOf_ready (ready : s.state ≠ .busy) (noStart : ∀ w, i ≠ .wrCmd w) : (effectOf i s).state ≠ .busy := by
  rcases effectOf_state i s with kept | ⟨w, start, -⟩ | ⟨-, -, -, -, idle⟩
  · rwa [kept]
  · exact absurd start (noStart w)
  · simp [idle]

/-- R69: where nothing runs and the script starts nothing, each step accepts an access. -/
theorem run_of_noStart (quiet : Prop) {m : State} (script : DecodesTo s.pending is)
    (noStart : ∀ i ∈ is, ∀ w, i ≠ .wrCmd w) (noReset : s.resetIn = []) (ready : s.state ≠ .busy)
    (same : s.AgreesWith quiet m) :
    ∃ t, Host.Core.run core is.length s = .next t ∧ t.AgreesWith quiet (effectsOf is m) := by
  induction is generalizing s m with
  | nil => exact ⟨s, rfl, same⟩
  | cons i js ih =>
    obtain ⟨a, rest, decoded, others, next⟩ := List.forall₂_cons_right_iff.mp script
    obtain ⟨first, later⟩ := List.forall_mem_cons.mp noStart
    have accepted : core.step s = .next (effectOf i s.tick.pop) :=
      (step_of_decoded (by simp [noReset]) (fun due => ready due.1) next decoded).trans
        (exec_of_ready (isCommand_of_decodeAccess decoded) ready)
    have popped : s.tick.pop.AgreesWith quiet m := ⟨same.core, same.replies⟩
    obtain ⟨t, run, ended⟩ := ih (s := effectOf i s.tick.pop) (by simpa [next] using others) later
      (by simp [noReset]) (effectOf_ready ready first) (popped.effectOf i)
    exact ⟨t, by simpa only [List.length_cons, Host.Core.run, accepted] using run, ended⟩

/-! ### Erasing by hand -/

/-- The state in which all that `CTRL` can clear is cleared and no result is held. -/
def State.cleared (s : State) : State :=
  s.clearPw.clearUser.clearDom.clearData.clearCh.withoutResult .idle

/-- R238: outside `BUSY`, where `IDLE` holds no result, an acknowledge ends in `IDLE` without one. -/
theorem State.acknowledge_of_ready (ready : s.state ≠ .busy)
    (blank : s.state = .idle → s.out = zeros 24 ∧ s.outlen = 0 ∧ s.err = .noError) :
    s.acknowledge = s.withoutResult .idle := by
  rcases s.acknowledge_cases with ⟨-, acknowledged⟩ | ⟨notDone, notError, unchanged⟩
  · exact acknowledged
  · have idle : s.state = .idle := by
      cases state : s.state with
      | idle => rfl
      | busy => exact absurd state ready
      | done => exact absurd state notDone
      | error => exact absurd state notError
    obtain ⟨out, outlen, err⟩ := blank idle
    rw [unchanged, State.withoutResult, ← out, ← outlen, ← err, ← idle]

/-- R236, R238: `CTRL` 0x3F is the five clears and the acknowledge. -/
theorem State.control_eq_cleared (ready : s.state ≠ .busy)
    (blank : s.state = .idle → s.out = zeros 24 ∧ s.outlen = 0 ∧ s.err = .noError) :
    s.control 0x3F = s.cleared :=
  State.acknowledge_of_ready (s := s.clearPw.clearUser.clearDom.clearData.clearCh) ready blank

/-- The three accesses by which R290 lets a host without the reset input erase what it wrote. -/
def erasure : List Instr := [.wrCtrl 0x3F, .wrOffset 0, .wrIen 0]

/-- R40, R290: the three writes give every element but `CMD` its value after reset. -/
theorem effectsOf_erasure (ready : s.state ≠ .busy)
    (blank : s.state = .idle → s.out = zeros 24 ∧ s.outlen = 0 ∧ s.err = .noError) :
    (effectsOf erasure s).core = { State.reset.core with cmd := s.cmd, params := s.params }
      ∧ (effectsOf erasure s).replies = s.replies := by
  have effects : effectsOf erasure s = { s.cleared with offset := 0, ie := false } := by
    rw [← State.control_eq_cleared ready blank]
    rfl
  rw [effects]
  exact ⟨rfl, rfl⟩

end Sys2Proof.Machine
end

section
/-! The statements of `70_reset_and_hazards.md`. -/

namespace Sys2Proof.Machine

/-- Settles O50, by what the next step is: reset, a completion, the host's next access, or nothing. -/
theorem definedScriptsNeverStop : Obligations.DefinedScriptsNeverStop := by
  intro s defined
  by_cases applied : s.resetIn.head? = some true
  · exact ⟨_, step_of_reset applied, State.scriptDefined_applyReset defined⟩
  by_cases due : s.state = .busy ∧ s.delay = 0
  · obtain ⟨busy, elapsed⟩ := due
    obtain ⟨kept, -⟩ := s.tick.settled_host
    exact ⟨_, step_of_due applied busy elapsed, by rwa [State.scriptDefined, kept]⟩
  cases next : s.pending with
  | nil => exact ⟨_, step_of_nothing applied due next, defined⟩
  | cons a rest =>
    rw [State.scriptDefined, next] at defined
    obtain ⟨first, others⟩ := List.forall_mem_cons.mp defined
    have decoded := decodeAccess_of_wellFormed first
    rw [step_of_decoded applied due next decoded]
    exact exec_scriptDefined decoded (by simpa [State.scriptDefined, next] using others)

/-- Settles O58: each of the three writes is accepted in one step, and together they erase all but `CMD`. -/
theorem threeWritesReachTheResetState : Obligations.ThreeWritesReachTheResetState := by
  intro s ready blank noReset script
  have decoded : DecodesTo s.pending erasure := by
    rw [script]
    exact .cons (decodeAccess_write 0x3F rfl) (.cons (decodeAccess_write 0 rfl) (.cons (decodeAccess_write 0 rfl) .nil))
  obtain ⟨t, run, agrees⟩ :=
    run_of_noStart True decoded (by simp [erasure]) noReset ready ⟨rfl, fun _ => rfl⟩
  obtain ⟨erased, silent⟩ := effectsOf_erasure ready blank
  exact ⟨t, run, agrees.core.trans erased, (agrees.replies trivial).trans silent⟩

/-- Settles O46: what `tick` does is all that such a step does. -/
theorem idleStepChangesNothing : Obligations.IdleStepChangesNothing :=
  fun _ noReset notDue nothing => step_of_nothing noReset notDue nothing

/-- Settles O47: reset writes every element, and of the host's program it takes at most the held access. -/
theorem resetSetsEveryElement : Obligations.ResetSetsEveryElement := by
  intro s applied
  refine ⟨s.applyReset, step_of_reset applied, rfl, rfl, rfl, rfl, rfl, rfl, rfl, rfl, rfl, rfl, rfl, rfl, rfl, rfl,
    rfl, rfl, zeros_toList 24, rfl, rfl, rfl, rfl, rfl, s.applyReset_pending_cases⟩

end Sys2Proof.Machine
end
